-- ==== Sys2Proof/Word.lean ====
section
/-!
DEFINITION. The two value types of the spec (00_scope.md R9): `u8` and `u16`, all unsigned.
BitVec arithmetic is the spec's wrapping arithmetic (R10): modulo 256 on bytes, modulo 65536 on words.
-/

namespace Sys2Proof

/-- A `u8`: a register, a memory byte, an opcode byte (R9). -/
abbrev Byte := BitVec 8

/-- A `u16`: an address, a pair value, `sp` or `pc` (R9). -/
abbrev Word := BitVec 16

end Sys2Proof
end

