-- ==== Sys2Proof/Config.lean ====
section
/-!
DEFINITION. What is fixed for the machine: the constants of 00_scope.md R8 and the spec's named construction
parameters (R8, 10_state.md R39). There is no free value: the spec leaves no result of an instruction open.
-/

namespace Sys2Proof

/-- The byte that marks a prefixed opcode (R8, R80): 0xCB. -/
def Config.cbByte : Byte := 0xCB

/-- First address of the VRAM window (R8, R53). -/
def Config.windowBase : Nat := 0x8000

/-- Last address of the VRAM window (R8, R53). -/
def Config.windowLast : Nat := 0x9FFF

/-- Number of VRAM bytes, offsets 0x0000 to 0x1FFF (R8, R56). -/
def Config.vramSize : Nat := 0x2000

/-- Number of addressable bytes (R8, R50). -/
def Config.addressCount : Nat := 0x10000

/-- What a byte of local memory or VRAM that no cell lists reads as.
DESIGN CHOICE, unsafe (log entry 4): the spec leaves INIT_MEM and INIT_VRAM open (D4). -/
def Config.unlistedByte : Byte := 0x00

/-- The construction parameters the spec names (R8, R39; D3, D4): RESET_PC, RESET_SP, RESET_REGS (with its four
flags), INIT_MEM and INIT_VRAM. Memories are given as their listed cells; VRAM cells are keyed by offset. -/
structure ResetParams where
  resetPc : Word
  resetSp : Word
  regA : Byte
  regB : Byte
  regC : Byte
  regD : Byte
  regE : Byte
  regH : Byte
  regL : Byte
  flagZ : Bool
  flagN : Bool
  flagH : Bool
  flagC : Bool
  initMem : List Host.Cell
  initVram : List Host.Cell
  deriving DecidableEq, Repr

/-- The values `State.reset` is constructed from. DESIGN CHOICE, unsafe (log entries 3 and 4): the spec gives none
and suggests all zero for a deterministic simulator only (D3). -/
def Config.zeroParams : ResetParams :=
  { resetPc := 0, resetSp := 0, regA := 0, regB := 0, regC := 0, regD := 0, regE := 0, regH := 0, regL := 0,
    flagZ := false, flagN := false, flagH := false, flagC := false, initMem := [], initVram := [] }

end Sys2Proof
end

