-- ==== Sys2Proof/Syntax.lean ====
section
/-!
DEFINITION. The instructions: operand names (30_encoding.md R85, R86, R190), the descriptors of R90, and `Instr`,
one constructor per mnemonic of spec/opcode_table.json.
Operand bytes (d8, a16) are no field of an instruction: its rule reads them from the bus while it executes
(R82, R83, R87; 20_memory.md R73), so an instruction is what the decoder resolves from the opcode byte alone (R93).
-/

namespace Sys2Proof

/-- The seven 8-bit registers (10_state.md R21), in the order of R85. -/
inductive Reg8 where
  | b | c | d | e | h | l | a
  deriving DecidableEq, Repr

/-- The register pairs (10_state.md R26), the operands `qq` of PUSH and POP (R86). -/
inductive Pair where
  | bc | de | hl | af
  deriving DecidableEq, Repr

/-- The operands `rr` (R86): three pairs and the stack pointer. -/
inductive PairOrSp where
  | bc | de | hl | sp
  deriving DecidableEq, Repr

/-- The five tests of JP, CALL and RET (43_control.md R190). -/
inductive Test where
  | always | zero | notZero | carry | notCarry
  deriving DecidableEq, Repr

/-- The operand names of the unimplemented indirect loads (42_load.md R178, R179): (BC), (DE), (HL+), (HL-),
(0xFF00+a8), (0xFF00+C), (a16). They identify a row and have no meaning. -/
inductive Indirect where
  | bc | de | hlInc | hlDec | highA8 | highC | a16
  deriving DecidableEq, Repr

/-- The target of the byte load (42_load.md R171): a register or memory through HL. -/
inductive Target where
  | reg (r : Reg8)
  | memHl
  deriving DecidableEq, Repr

/-- The source of the byte load (42_load.md R170): a register, memory through HL, or the immediate byte. -/
inductive Source where
  | reg (r : Reg8)
  | memHl
  | imm
  deriving DecidableEq, Repr

/-- The instruction descriptors (R90), with fully resolved operand descriptors. Which of these terms the decoder
produces is `Descriptor.wf`. -/
inductive Descriptor where
  | nop
  | add (r : Reg8)
  | addHl (rr : PairOrSp)
  | inc (r : Reg8)
  | dec (r : Reg8)
  | incRr (rr : PairOrSp)
  | decRr (rr : PairOrSp)
  | incMem
  | decMem
  | ldByte (target : Target) (source : Source)
  | ldWord (rr : PairOrSp)
  | ldIndirectFromA (x : Indirect)
  | ldAFromIndirect (x : Indirect)
  | ldIndirectFromSp
  | jp (test : Test)
  | call (test : Test)
  | ret (test : Test)
  | push (qq : Pair)
  | pop (qq : Pair)
  | rlca
  | rrca
  | rla
  | rra
  deriving DecidableEq, Repr

/-- One constructor per mnemonic of spec/opcode_table.json. -/
inductive Instr where
  /-- `NOP` (0x00, R220). -/
  | nop
  /-- `LD BC,d16` (0x01, R177). -/
  | ldBcD16
  /-- `LD (BC),A` (0x02, R178). -/
  | ldIndBcA
  /-- `INC BC` (0x03, R138). -/
  | incBc
  /-- `INC B` (0x04, R136). -/
  | incB
  /-- `DEC B` (0x05, R137). -/
  | decB
  /-- `LD B,d8` (0x06, R175). -/
  | ldBD8
  /-- `RLCA` (0x07, R221). -/
  | rlca
  /-- `LD (a16),SP` (0x08, R180). -/
  | ldIndA16Sp
  /-- `ADD HL,BC` (0x09, R135). -/
  | addHlBc
  /-- `LD A,(BC)` (0x0A, R179). -/
  | ldAIndBc
  /-- `DEC BC` (0x0B, R139). -/
  | decBc
  /-- `INC C` (0x0C, R136). -/
  | incC
  /-- `DEC C` (0x0D, R137). -/
  | decC
  /-- `LD C,d8` (0x0E, R175). -/
  | ldCD8
  /-- `RRCA` (0x0F, R222). -/
  | rrca
  /-- `LD DE,d16` (0x11, R177). -/
  | ldDeD16
  /-- `LD (DE),A` (0x12, R178). -/
  | ldIndDeA
  /-- `INC DE` (0x13, R138). -/
  | incDe
  /-- `INC D` (0x14, R136). -/
  | incD
  /-- `DEC D` (0x15, R137). -/
  | decD
  /-- `LD D,d8` (0x16, R175). -/
  | ldDD8
  /-- `RLA` (0x17, R223). -/
  | rla
  /-- `ADD HL,DE` (0x19, R135). -/
  | addHlDe
  /-- `LD A,(DE)` (0x1A, R179). -/
  | ldAIndDe
  /-- `DEC DE` (0x1B, R139). -/
  | decDe
  /-- `INC E` (0x1C, R136). -/
  | incE
  /-- `DEC E` (0x1D, R137). -/
  | decE
  /-- `LD E,d8` (0x1E, R175). -/
  | ldED8
  /-- `RRA` (0x1F, R224). -/
  | rra
  /-- `LD HL,d16` (0x21, R177). -/
  | ldHlD16
  /-- `LD (HL+),A` (0x22, R178). -/
  | ldIndHlIncA
  /-- `INC H` (0x24, R136). -/
  | incH
  /-- `DEC H` (0x25, R137). -/
  | decH
  /-- `LD H,d8` (0x26, R175). -/
  | ldHD8
  /-- `ADD HL,HL` (0x29, R135). -/
  | addHlHl
  /-- `LD A,(HL+)` (0x2A, R179). -/
  | ldAIndHlInc
  /-- `INC L` (0x2C, R136). -/
  | incL
  /-- `DEC L` (0x2D, R137). -/
  | decL
  /-- `LD L,d8` (0x2E, R175). -/
  | ldLD8
  /-- `LD SP,d16` (0x31, R177). -/
  | ldSpD16
  /-- `LD (HL-),A` (0x32, R178). -/
  | ldIndHlDecA
  /-- `INC SP` (0x33, R138). -/
  | incSp
  /-- `INC (HL)` (0x34, R140). -/
  | incIndHl
  /-- `DEC (HL)` (0x35, R141). -/
  | decIndHl
  /-- `LD (HL),d8` (0x36, R176). -/
  | ldIndHlD8
  /-- `ADD HL,SP` (0x39, R135). -/
  | addHlSp
  /-- `LD A,(HL-)` (0x3A, R179). -/
  | ldAIndHlDec
  /-- `DEC SP` (0x3B, R139). -/
  | decSp
  /-- `INC A` (0x3C, R136). -/
  | incA
  /-- `DEC A` (0x3D, R137). -/
  | decA
  /-- `LD A,d8` (0x3E, R175). -/
  | ldAD8
  /-- `LD B,B` (0x40, R172). -/
  | ldBB
  /-- `LD B,C` (0x41, R172). -/
  | ldBC
  /-- `LD B,D` (0x42, R172). -/
  | ldBD
  /-- `LD B,E` (0x43, R172). -/
  | ldBE
  /-- `LD B,H` (0x44, R172). -/
  | ldBH
  /-- `LD B,L` (0x45, R172). -/
  | ldBL
  /-- `LD B,(HL)` (0x46, R173). -/
  | ldBIndHl
  /-- `LD B,A` (0x47, R172). -/
  | ldBA
  /-- `LD C,B` (0x48, R172). -/
  | ldCB
  /-- `LD C,C` (0x49, R172). -/
  | ldCC
  /-- `LD C,D` (0x4A, R172). -/
  | ldCD
  /-- `LD C,E` (0x4B, R172). -/
  | ldCE
  /-- `LD C,H` (0x4C, R172). -/
  | ldCH
  /-- `LD C,L` (0x4D, R172). -/
  | ldCL
  /-- `LD C,(HL)` (0x4E, R173). -/
  | ldCIndHl
  /-- `LD C,A` (0x4F, R172). -/
  | ldCA
  /-- `LD D,B` (0x50, R172). -/
  | ldDB
  /-- `LD D,C` (0x51, R172). -/
  | ldDC
  /-- `LD D,D` (0x52, R172). -/
  | ldDD
  /-- `LD D,E` (0x53, R172). -/
  | ldDE
  /-- `LD D,H` (0x54, R172). -/
  | ldDH
  /-- `LD D,L` (0x55, R172). -/
  | ldDL
  /-- `LD D,(HL)` (0x56, R173). -/
  | ldDIndHl
  /-- `LD D,A` (0x57, R172). -/
  | ldDA
  /-- `LD E,B` (0x58, R172). -/
  | ldEB
  /-- `LD E,C` (0x59, R172). -/
  | ldEC
  /-- `LD E,D` (0x5A, R172). -/
  | ldED
  /-- `LD E,E` (0x5B, R172). -/
  | ldEE
  /-- `LD E,H` (0x5C, R172). -/
  | ldEH
  /-- `LD E,L` (0x5D, R172). -/
  | ldEL
  /-- `LD E,(HL)` (0x5E, R173). -/
  | ldEIndHl
  /-- `LD E,A` (0x5F, R172). -/
  | ldEA
  /-- `LD H,B` (0x60, R172). -/
  | ldHB
  /-- `LD H,C` (0x61, R172). -/
  | ldHC
  /-- `LD H,D` (0x62, R172). -/
  | ldHD
  /-- `LD H,E` (0x63, R172). -/
  | ldHE
  /-- `LD H,H` (0x64, R172). -/
  | ldHH
  /-- `LD H,L` (0x65, R172). -/
  | ldHL
  /-- `LD H,(HL)` (0x66, R173). -/
  | ldHIndHl
  /-- `LD H,A` (0x67, R172). -/
  | ldHA
  /-- `LD L,B` (0x68, R172). -/
  | ldLB
  /-- `LD L,C` (0x69, R172). -/
  | ldLC
  /-- `LD L,D` (0x6A, R172). -/
  | ldLD
  /-- `LD L,E` (0x6B, R172). -/
  | ldLE
  /-- `LD L,H` (0x6C, R172). -/
  | ldLH
  /-- `LD L,L` (0x6D, R172). -/
  | ldLL
  /-- `LD L,(HL)` (0x6E, R173). -/
  | ldLIndHl
  /-- `LD L,A` (0x6F, R172). -/
  | ldLA
  /-- `LD (HL),B` (0x70, R174). -/
  | ldIndHlB
  /-- `LD (HL),C` (0x71, R174). -/
  | ldIndHlC
  /-- `LD (HL),D` (0x72, R174). -/
  | ldIndHlD
  /-- `LD (HL),E` (0x73, R174). -/
  | ldIndHlE
  /-- `LD (HL),H` (0x74, R174). -/
  | ldIndHlH
  /-- `LD (HL),L` (0x75, R174). -/
  | ldIndHlL
  /-- `LD (HL),A` (0x77, R174). -/
  | ldIndHlA
  /-- `LD A,B` (0x78, R172). -/
  | ldAB
  /-- `LD A,C` (0x79, R172). -/
  | ldAC
  /-- `LD A,D` (0x7A, R172). -/
  | ldAD
  /-- `LD A,E` (0x7B, R172). -/
  | ldAE
  /-- `LD A,H` (0x7C, R172). -/
  | ldAH
  /-- `LD A,L` (0x7D, R172). -/
  | ldAL
  /-- `LD A,(HL)` (0x7E, R173). -/
  | ldAIndHl
  /-- `LD A,A` (0x7F, R172). -/
  | ldAA
  /-- `ADD A,B` (0x80, R134). -/
  | addAB
  /-- `ADD A,C` (0x81, R134). -/
  | addAC
  /-- `ADD A,D` (0x82, R134). -/
  | addAD
  /-- `ADD A,E` (0x83, R134). -/
  | addAE
  /-- `ADD A,H` (0x84, R134). -/
  | addAH
  /-- `ADD A,L` (0x85, R134). -/
  | addAL
  /-- `ADD A,A` (0x87, R134). -/
  | addAA
  /-- `RET NZ` (0xC0, R193). -/
  | retNz
  /-- `POP BC` (0xC1, R213). -/
  | popBc
  /-- `JP NZ,a16` (0xC2, R191). -/
  | jpNz
  /-- `JP a16` (0xC3, R191). -/
  | jp
  /-- `CALL NZ,a16` (0xC4, R192). -/
  | callNz
  /-- `PUSH BC` (0xC5, R212). -/
  | pushBc
  /-- `RET Z` (0xC8, R193). -/
  | retZ
  /-- `RET` (0xC9, R193). -/
  | ret
  /-- `JP Z,a16` (0xCA, R191). -/
  | jpZ
  /-- `CALL Z,a16` (0xCC, R192). -/
  | callZ
  /-- `CALL a16` (0xCD, R192). -/
  | call
  /-- `RET NC` (0xD0, R193). -/
  | retNc
  /-- `POP DE` (0xD1, R213). -/
  | popDe
  /-- `JP NC,a16` (0xD2, R191). -/
  | jpNc
  /-- `CALL NC,a16` (0xD4, R192). -/
  | callNc
  /-- `PUSH DE` (0xD5, R212). -/
  | pushDe
  /-- `RET C` (0xD8, R193). -/
  | retC
  /-- `JP C,a16` (0xDA, R191). -/
  | jpC
  /-- `CALL C,a16` (0xDC, R192). -/
  | callC
  /-- `LDH (a8),A` (0xE0, R178). -/
  | ldhIndA8A
  /-- `POP HL` (0xE1, R213). -/
  | popHl
  /-- `LD (C),A` (0xE2, R178). -/
  | ldIndCA
  /-- `PUSH HL` (0xE5, R212). -/
  | pushHl
  /-- `LD (a16),A` (0xEA, R178). -/
  | ldIndA16A
  /-- `LDH A,(a8)` (0xF0, R179). -/
  | ldhAIndA8
  /-- `POP AF` (0xF1, R213). -/
  | popAf
  /-- `LD A,(C)` (0xF2, R179). -/
  | ldAIndC
  /-- `PUSH AF` (0xF5, R212). -/
  | pushAf
  /-- `LD A,(a16)` (0xFA, R179). -/
  | ldAIndA16
  /-- The `decode_miss` rows (R91): the unprefixed byte has no descriptor. -/
  | decodeMiss (byte : Byte)
  /-- The `prefixed_decode_miss` row (R88, R225): the byte after 0xCB has no descriptor. -/
  | prefixedDecodeMiss (byte : Byte)
  deriving DecidableEq, Repr

end Sys2Proof
end

