-- ==== Sys2Proof/WellFormed.lean ====
section
/-!
DEFINITION. Which terms of `Instr` and of `Descriptor` stand for something the spec's table holds.
-/

namespace Sys2Proof

/-- The 104 unprefixed bytes with no descriptor, as R91 lists them. -/
def missBytes : List Byte :=
  [0x10, 0x18, 0x20, 0x23, 0x27, 0x28, 0x2B, 0x2F, 0x30, 0x37, 0x38, 0x3F, 0x76] ++
  [0x86, 0x88, 0x89, 0x8A, 0x8B, 0x8C, 0x8D, 0x8E, 0x8F, 0x90, 0x91, 0x92, 0x93] ++
  [0x94, 0x95, 0x96, 0x97, 0x98, 0x99, 0x9A, 0x9B, 0x9C, 0x9D, 0x9E, 0x9F, 0xA0] ++
  [0xA1, 0xA2, 0xA3, 0xA4, 0xA5, 0xA6, 0xA7, 0xA8, 0xA9, 0xAA, 0xAB, 0xAC, 0xAD] ++
  [0xAE, 0xAF, 0xB0, 0xB1, 0xB2, 0xB3, 0xB4, 0xB5, 0xB6, 0xB7, 0xB8, 0xB9, 0xBA] ++
  [0xBB, 0xBC, 0xBD, 0xBE, 0xBF, 0xC6, 0xC7, 0xCE, 0xCF, 0xD3, 0xD6, 0xD7, 0xD9] ++
  [0xDB, 0xDD, 0xDE, 0xDF, 0xE3, 0xE4, 0xE6, 0xE7, 0xE8, 0xE9, 0xEB, 0xEC, 0xED] ++
  [0xEE, 0xEF, 0xF3, 0xF4, 0xF6, 0xF7, 0xF8, 0xF9, 0xFB, 0xFC, 0xFD, 0xFE, 0xFF]

/-- `decodeMiss` carries one of R91's bytes; every other constructor is well formed with every operand. -/
def Instr.wf : Instr → Bool
  | .decodeMiss byte => missBytes.contains byte
  | .prefixedDecodeMiss _ => true
  | .nop | .ldBcD16 | .ldIndBcA | .incBc | .incB | .decB | .ldBD8 | .rlca | .ldIndA16Sp | .addHlBc
  | .ldAIndBc | .decBc | .incC | .decC | .ldCD8 | .rrca | .ldDeD16 | .ldIndDeA | .incDe | .incD | .decD
  | .ldDD8 | .rla | .addHlDe | .ldAIndDe | .decDe | .incE | .decE | .ldED8 | .rra | .ldHlD16 | .ldIndHlIncA
  | .incH | .decH | .ldHD8 | .addHlHl | .ldAIndHlInc | .incL | .decL | .ldLD8 | .ldSpD16 | .ldIndHlDecA
  | .incSp | .incIndHl | .decIndHl | .ldIndHlD8 | .addHlSp | .ldAIndHlDec | .decSp | .incA | .decA | .ldAD8
  | .ldBB | .ldBC | .ldBD | .ldBE | .ldBH | .ldBL | .ldBIndHl | .ldBA | .ldCB | .ldCC | .ldCD | .ldCE | .ldCH
  | .ldCL | .ldCIndHl | .ldCA | .ldDB | .ldDC | .ldDD | .ldDE | .ldDH | .ldDL | .ldDIndHl | .ldDA | .ldEB
  | .ldEC | .ldED | .ldEE | .ldEH | .ldEL | .ldEIndHl | .ldEA | .ldHB | .ldHC | .ldHD | .ldHE | .ldHH | .ldHL
  | .ldHIndHl | .ldHA | .ldLB | .ldLC | .ldLD | .ldLE | .ldLH | .ldLL | .ldLIndHl | .ldLA | .ldIndHlB
  | .ldIndHlC | .ldIndHlD | .ldIndHlE | .ldIndHlH | .ldIndHlL | .ldIndHlA | .ldAB | .ldAC | .ldAD | .ldAE
  | .ldAH | .ldAL | .ldAIndHl | .ldAA | .addAB | .addAC | .addAD | .addAE | .addAH | .addAL | .addAA | .retNz
  | .popBc | .jpNz | .jp | .callNz | .pushBc | .retZ | .ret | .jpZ | .callZ | .call | .retNc | .popDe | .jpNc
  | .callNc | .pushDe | .retC | .jpC | .callC | .ldhIndA8A | .popHl | .ldIndCA | .pushHl | .ldIndA16A
  | .ldhAIndA8 | .popAf | .ldAIndC | .pushAf | .ldAIndA16 => true

/-- The descriptors R90 lists: the 16-bit INC and DEC have no HL form, and memory through HL is not loaded from
itself (byte 0x76, R91). -/
def Descriptor.wf : Descriptor → Bool
  | .incRr rr | .decRr rr => rr != .hl
  | .ldByte target source => !(target == .memHl && source == .memHl)
  | .nop | .add _ | .addHl _ | .inc _ | .dec _ | .incMem | .decMem | .ldWord _ | .ldIndirectFromA _
  | .ldAFromIndirect _ | .ldIndirectFromSp | .jp _ | .call _ | .ret _ | .push _ | .pop _
  | .rlca | .rrca | .rla | .rra => true

end Sys2Proof
end

