-- ==== Sys2Proof/Decode.lean ====
section
/-!
DEFINITION. The decoder of 30_encoding.md (R87 to R94) and, after it, the encoder.
The decoder is R89's map written as a table; the encoder is written from the field codes and bit patterns of
R85, R86 and R90, so that the two agreeing says that the spec's two presentations agree.
Every opcode byte is the spec's decision D1 (PRESUMED there, log entry 6).
-/

namespace Sys2Proof

/-! ### The decoder -/

/-- R89, row 0x. -/
def unprefixedRow0 : List (Option Instr) :=
  [some .nop, some .ldBcD16, some .ldIndBcA, some .incBc, some .incB, some .decB, some .ldBD8, some .rlca,
   some .ldIndA16Sp, some .addHlBc, some .ldAIndBc, some .decBc, some .incC, some .decC, some .ldCD8,
   some .rrca]

/-- R89, row 1x. -/
def unprefixedRow1 : List (Option Instr) :=
  [none, some .ldDeD16, some .ldIndDeA, some .incDe, some .incD, some .decD, some .ldDD8, some .rla, none,
   some .addHlDe, some .ldAIndDe, some .decDe, some .incE, some .decE, some .ldED8, some .rra]

/-- R89, row 2x. -/
def unprefixedRow2 : List (Option Instr) :=
  [none, some .ldHlD16, some .ldIndHlIncA, none, some .incH, some .decH, some .ldHD8, none, none,
   some .addHlHl, some .ldAIndHlInc, none, some .incL, some .decL, some .ldLD8, none]

/-- R89, row 3x. -/
def unprefixedRow3 : List (Option Instr) :=
  [none, some .ldSpD16, some .ldIndHlDecA, some .incSp, some .incIndHl, some .decIndHl, some .ldIndHlD8,
   none, none, some .addHlSp, some .ldAIndHlDec, some .decSp, some .incA, some .decA, some .ldAD8, none]

/-- R89, row 4x. -/
def unprefixedRow4 : List (Option Instr) :=
  [some .ldBB, some .ldBC, some .ldBD, some .ldBE, some .ldBH, some .ldBL, some .ldBIndHl, some .ldBA,
   some .ldCB, some .ldCC, some .ldCD, some .ldCE, some .ldCH, some .ldCL, some .ldCIndHl, some .ldCA]

/-- R89, row 5x. -/
def unprefixedRow5 : List (Option Instr) :=
  [some .ldDB, some .ldDC, some .ldDD, some .ldDE, some .ldDH, some .ldDL, some .ldDIndHl, some .ldDA,
   some .ldEB, some .ldEC, some .ldED, some .ldEE, some .ldEH, some .ldEL, some .ldEIndHl, some .ldEA]

/-- R89, row 6x. -/
def unprefixedRow6 : List (Option Instr) :=
  [some .ldHB, some .ldHC, some .ldHD, some .ldHE, some .ldHH, some .ldHL, some .ldHIndHl, some .ldHA,
   some .ldLB, some .ldLC, some .ldLD, some .ldLE, some .ldLH, some .ldLL, some .ldLIndHl, some .ldLA]

/-- R89, row 7x. -/
def unprefixedRow7 : List (Option Instr) :=
  [some .ldIndHlB, some .ldIndHlC, some .ldIndHlD, some .ldIndHlE, some .ldIndHlH, some .ldIndHlL, none,
   some .ldIndHlA, some .ldAB, some .ldAC, some .ldAD, some .ldAE, some .ldAH, some .ldAL, some .ldAIndHl,
   some .ldAA]

/-- R89, row 8x. -/
def unprefixedRow8 : List (Option Instr) :=
  [some .addAB, some .addAC, some .addAD, some .addAE, some .addAH, some .addAL, none, some .addAA, none,
   none, none, none, none, none, none, none]

/-- R89, row 9x. -/
def unprefixedRow9 : List (Option Instr) :=
  [none, none, none, none, none, none, none, none, none, none, none, none, none, none, none, none]

/-- R89, row Ax. -/
def unprefixedRowA : List (Option Instr) :=
  [none, none, none, none, none, none, none, none, none, none, none, none, none, none, none, none]

/-- R89, row Bx. -/
def unprefixedRowB : List (Option Instr) :=
  [none, none, none, none, none, none, none, none, none, none, none, none, none, none, none, none]

/-- R89, row Cx. -/
def unprefixedRowC : List (Option Instr) :=
  [some .retNz, some .popBc, some .jpNz, some .jp, some .callNz, some .pushBc, none, none, some .retZ,
   some .ret, some .jpZ, none, some .callZ, some .call, none, none]

/-- R89, row Dx. -/
def unprefixedRowD : List (Option Instr) :=
  [some .retNc, some .popDe, some .jpNc, none, some .callNc, some .pushDe, none, none, some .retC, none,
   some .jpC, none, some .callC, none, none, none]

/-- R89, row Ex. -/
def unprefixedRowE : List (Option Instr) :=
  [some .ldhIndA8A, some .popHl, some .ldIndCA, none, none, some .pushHl, none, none, none, none,
   some .ldIndA16A, none, none, none, none, none]

/-- R89, row Fx. -/
def unprefixedRowF : List (Option Instr) :=
  [some .ldhAIndA8, some .popAf, some .ldAIndC, none, none, some .pushAf, none, none, none, none,
   some .ldAIndA16, none, none, none, none, none]

/-- R89's map: the row is the high nibble, the column the low nibble. 0xCB holds `none` (R92). -/
def unprefixedTable : List (List (Option Instr)) :=
  [unprefixedRow0, unprefixedRow1, unprefixedRow2, unprefixedRow3] ++
  [unprefixedRow4, unprefixedRow5, unprefixedRow6, unprefixedRow7] ++
  [unprefixedRow8, unprefixedRow9, unprefixedRowA, unprefixedRowB] ++
  [unprefixedRowC, unprefixedRowD, unprefixedRowE, unprefixedRowF]

/-- R88: every byte of the prefixed space maps to `none`. -/
def prefixedTable : List (List (Option Instr)) :=
  List.replicate 16 (List.replicate 16 none)

/-- The entry of a 256-entry table at a byte. -/
def tableEntry (table : List (List (Option Instr))) (byte : Byte) : Option Instr :=
  (table[byte.toNat / 16]?.bind (fun row => row[byte.toNat % 16]?)).join

/-- R87: `decode(byte, prefixed)`, a pure total function; `none` is a decode miss. -/
def decode (byte : Byte) (prefixed : Bool) : Option Instr :=
  tableEntry (if prefixed then prefixedTable else unprefixedTable) byte

/-- The table row of a missed byte: what the opcode table names `decode_miss` or `prefixed_decode_miss`. -/
def missRow (byte : Byte) (prefixed : Bool) : Instr :=
  if prefixed then .prefixedDecodeMiss byte else .decodeMiss byte

/-- The opcode-table row of a fetched byte: its instruction, or the row that names the miss (R94, R114). -/
def rowOf (byte : Byte) (prefixed : Bool) : Instr :=
  (decode byte prefixed).getD (missRow byte prefixed)

/-- Why a byte string holds no instruction: it has no byte, or it ends after the 0xCB byte. -/
inductive DecodeError where
  | noByte
  | nothingAfterCb
  deriving DecidableEq, Repr

/-- The instruction at the head of a byte string, with the bytes after its opcode (R80, R113). -/
def decodeBytes : List Byte → Except DecodeError (Instr × List Byte)
  | [] => .error .noByte
  | b0 :: rest =>
    if b0 = Config.cbByte then
      match rest with
      | [] => .error .nothingAfterCb
      | b1 :: rest' => .ok (rowOf b1 true, rest')
    else .ok (rowOf b0 false, rest)

/-! ### What a constructor stands for (R90) -/

/-- What an instruction is: a descriptor of R90, or a byte that the decoder misses (R88, R91). -/
inductive Row where
  | descriptor (d : Descriptor)
  | miss (byte : Byte) (prefixed : Bool)
  deriving DecidableEq, Repr

/-- The descriptor (R90) or the missed byte that each constructor stands for. -/
def Instr.row : Instr → Row
  | .nop => .descriptor .nop
  | .ldBcD16 => .descriptor (.ldWord .bc)
  | .ldIndBcA => .descriptor (.ldIndirectFromA .bc)
  | .incBc => .descriptor (.incRr .bc)
  | .incB => .descriptor (.inc .b)
  | .decB => .descriptor (.dec .b)
  | .ldBD8 => .descriptor (.ldByte (.reg .b) .imm)
  | .rlca => .descriptor .rlca
  | .ldIndA16Sp => .descriptor .ldIndirectFromSp
  | .addHlBc => .descriptor (.addHl .bc)
  | .ldAIndBc => .descriptor (.ldAFromIndirect .bc)
  | .decBc => .descriptor (.decRr .bc)
  | .incC => .descriptor (.inc .c)
  | .decC => .descriptor (.dec .c)
  | .ldCD8 => .descriptor (.ldByte (.reg .c) .imm)
  | .rrca => .descriptor .rrca
  | .ldDeD16 => .descriptor (.ldWord .de)
  | .ldIndDeA => .descriptor (.ldIndirectFromA .de)
  | .incDe => .descriptor (.incRr .de)
  | .incD => .descriptor (.inc .d)
  | .decD => .descriptor (.dec .d)
  | .ldDD8 => .descriptor (.ldByte (.reg .d) .imm)
  | .rla => .descriptor .rla
  | .addHlDe => .descriptor (.addHl .de)
  | .ldAIndDe => .descriptor (.ldAFromIndirect .de)
  | .decDe => .descriptor (.decRr .de)
  | .incE => .descriptor (.inc .e)
  | .decE => .descriptor (.dec .e)
  | .ldED8 => .descriptor (.ldByte (.reg .e) .imm)
  | .rra => .descriptor .rra
  | .ldHlD16 => .descriptor (.ldWord .hl)
  | .ldIndHlIncA => .descriptor (.ldIndirectFromA .hlInc)
  | .incH => .descriptor (.inc .h)
  | .decH => .descriptor (.dec .h)
  | .ldHD8 => .descriptor (.ldByte (.reg .h) .imm)
  | .addHlHl => .descriptor (.addHl .hl)
  | .ldAIndHlInc => .descriptor (.ldAFromIndirect .hlInc)
  | .incL => .descriptor (.inc .l)
  | .decL => .descriptor (.dec .l)
  | .ldLD8 => .descriptor (.ldByte (.reg .l) .imm)
  | .ldSpD16 => .descriptor (.ldWord .sp)
  | .ldIndHlDecA => .descriptor (.ldIndirectFromA .hlDec)
  | .incSp => .descriptor (.incRr .sp)
  | .incIndHl => .descriptor .incMem
  | .decIndHl => .descriptor .decMem
  | .ldIndHlD8 => .descriptor (.ldByte .memHl .imm)
  | .addHlSp => .descriptor (.addHl .sp)
  | .ldAIndHlDec => .descriptor (.ldAFromIndirect .hlDec)
  | .decSp => .descriptor (.decRr .sp)
  | .incA => .descriptor (.inc .a)
  | .decA => .descriptor (.dec .a)
  | .ldAD8 => .descriptor (.ldByte (.reg .a) .imm)
  | .ldBB => .descriptor (.ldByte (.reg .b) (.reg .b))
  | .ldBC => .descriptor (.ldByte (.reg .b) (.reg .c))
  | .ldBD => .descriptor (.ldByte (.reg .b) (.reg .d))
  | .ldBE => .descriptor (.ldByte (.reg .b) (.reg .e))
  | .ldBH => .descriptor (.ldByte (.reg .b) (.reg .h))
  | .ldBL => .descriptor (.ldByte (.reg .b) (.reg .l))
  | .ldBIndHl => .descriptor (.ldByte (.reg .b) .memHl)
  | .ldBA => .descriptor (.ldByte (.reg .b) (.reg .a))
  | .ldCB => .descriptor (.ldByte (.reg .c) (.reg .b))
  | .ldCC => .descriptor (.ldByte (.reg .c) (.reg .c))
  | .ldCD => .descriptor (.ldByte (.reg .c) (.reg .d))
  | .ldCE => .descriptor (.ldByte (.reg .c) (.reg .e))
  | .ldCH => .descriptor (.ldByte (.reg .c) (.reg .h))
  | .ldCL => .descriptor (.ldByte (.reg .c) (.reg .l))
  | .ldCIndHl => .descriptor (.ldByte (.reg .c) .memHl)
  | .ldCA => .descriptor (.ldByte (.reg .c) (.reg .a))
  | .ldDB => .descriptor (.ldByte (.reg .d) (.reg .b))
  | .ldDC => .descriptor (.ldByte (.reg .d) (.reg .c))
  | .ldDD => .descriptor (.ldByte (.reg .d) (.reg .d))
  | .ldDE => .descriptor (.ldByte (.reg .d) (.reg .e))
  | .ldDH => .descriptor (.ldByte (.reg .d) (.reg .h))
  | .ldDL => .descriptor (.ldByte (.reg .d) (.reg .l))
  | .ldDIndHl => .descriptor (.ldByte (.reg .d) .memHl)
  | .ldDA => .descriptor (.ldByte (.reg .d) (.reg .a))
  | .ldEB => .descriptor (.ldByte (.reg .e) (.reg .b))
  | .ldEC => .descriptor (.ldByte (.reg .e) (.reg .c))
  | .ldED => .descriptor (.ldByte (.reg .e) (.reg .d))
  | .ldEE => .descriptor (.ldByte (.reg .e) (.reg .e))
  | .ldEH => .descriptor (.ldByte (.reg .e) (.reg .h))
  | .ldEL => .descriptor (.ldByte (.reg .e) (.reg .l))
  | .ldEIndHl => .descriptor (.ldByte (.reg .e) .memHl)
  | .ldEA => .descriptor (.ldByte (.reg .e) (.reg .a))
  | .ldHB => .descriptor (.ldByte (.reg .h) (.reg .b))
  | .ldHC => .descriptor (.ldByte (.reg .h) (.reg .c))
  | .ldHD => .descriptor (.ldByte (.reg .h) (.reg .d))
  | .ldHE => .descriptor (.ldByte (.reg .h) (.reg .e))
  | .ldHH => .descriptor (.ldByte (.reg .h) (.reg .h))
  | .ldHL => .descriptor (.ldByte (.reg .h) (.reg .l))
  | .ldHIndHl => .descriptor (.ldByte (.reg .h) .memHl)
  | .ldHA => .descriptor (.ldByte (.reg .h) (.reg .a))
  | .ldLB => .descriptor (.ldByte (.reg .l) (.reg .b))
  | .ldLC => .descriptor (.ldByte (.reg .l) (.reg .c))
  | .ldLD => .descriptor (.ldByte (.reg .l) (.reg .d))
  | .ldLE => .descriptor (.ldByte (.reg .l) (.reg .e))
  | .ldLH => .descriptor (.ldByte (.reg .l) (.reg .h))
  | .ldLL => .descriptor (.ldByte (.reg .l) (.reg .l))
  | .ldLIndHl => .descriptor (.ldByte (.reg .l) .memHl)
  | .ldLA => .descriptor (.ldByte (.reg .l) (.reg .a))
  | .ldIndHlB => .descriptor (.ldByte .memHl (.reg .b))
  | .ldIndHlC => .descriptor (.ldByte .memHl (.reg .c))
  | .ldIndHlD => .descriptor (.ldByte .memHl (.reg .d))
  | .ldIndHlE => .descriptor (.ldByte .memHl (.reg .e))
  | .ldIndHlH => .descriptor (.ldByte .memHl (.reg .h))
  | .ldIndHlL => .descriptor (.ldByte .memHl (.reg .l))
  | .ldIndHlA => .descriptor (.ldByte .memHl (.reg .a))
  | .ldAB => .descriptor (.ldByte (.reg .a) (.reg .b))
  | .ldAC => .descriptor (.ldByte (.reg .a) (.reg .c))
  | .ldAD => .descriptor (.ldByte (.reg .a) (.reg .d))
  | .ldAE => .descriptor (.ldByte (.reg .a) (.reg .e))
  | .ldAH => .descriptor (.ldByte (.reg .a) (.reg .h))
  | .ldAL => .descriptor (.ldByte (.reg .a) (.reg .l))
  | .ldAIndHl => .descriptor (.ldByte (.reg .a) .memHl)
  | .ldAA => .descriptor (.ldByte (.reg .a) (.reg .a))
  | .addAB => .descriptor (.add .b)
  | .addAC => .descriptor (.add .c)
  | .addAD => .descriptor (.add .d)
  | .addAE => .descriptor (.add .e)
  | .addAH => .descriptor (.add .h)
  | .addAL => .descriptor (.add .l)
  | .addAA => .descriptor (.add .a)
  | .retNz => .descriptor (.ret .notZero)
  | .popBc => .descriptor (.pop .bc)
  | .jpNz => .descriptor (.jp .notZero)
  | .jp => .descriptor (.jp .always)
  | .callNz => .descriptor (.call .notZero)
  | .pushBc => .descriptor (.push .bc)
  | .retZ => .descriptor (.ret .zero)
  | .ret => .descriptor (.ret .always)
  | .jpZ => .descriptor (.jp .zero)
  | .callZ => .descriptor (.call .zero)
  | .call => .descriptor (.call .always)
  | .retNc => .descriptor (.ret .notCarry)
  | .popDe => .descriptor (.pop .de)
  | .jpNc => .descriptor (.jp .notCarry)
  | .callNc => .descriptor (.call .notCarry)
  | .pushDe => .descriptor (.push .de)
  | .retC => .descriptor (.ret .carry)
  | .jpC => .descriptor (.jp .carry)
  | .callC => .descriptor (.call .carry)
  | .ldhIndA8A => .descriptor (.ldIndirectFromA .highA8)
  | .popHl => .descriptor (.pop .hl)
  | .ldIndCA => .descriptor (.ldIndirectFromA .highC)
  | .pushHl => .descriptor (.push .hl)
  | .ldIndA16A => .descriptor (.ldIndirectFromA .a16)
  | .ldhAIndA8 => .descriptor (.ldAFromIndirect .highA8)
  | .popAf => .descriptor (.pop .af)
  | .ldAIndC => .descriptor (.ldAFromIndirect .highC)
  | .pushAf => .descriptor (.push .af)
  | .ldAIndA16 => .descriptor (.ldAFromIndirect .a16)
  | .decodeMiss byte => .miss byte false
  | .prefixedDecodeMiss byte => .miss byte true

/-- The descriptors the engine cannot execute (R90 "unimplemented", 60_exceptions.md R231). -/
def Descriptor.unimplemented : Descriptor → Bool
  | .ldWord _ | .ldIndirectFromA _ | .ldAFromIndirect _ | .ldIndirectFromSp | .rlca | .rrca | .rla | .rra => true
  | .nop | .add _ | .addHl _ | .inc _ | .dec _ | .incRr _ | .decRr _ | .incMem | .decMem | .ldByte _ _
  | .jp _ | .call _ | .ret _ | .push _ | .pop _ => false

/-- The pc advance of an executed descriptor that does not transfer control (R81); an unimplemented one has none. -/
def Descriptor.pcAdvance : Descriptor → Option Nat
  | .nop | .add _ | .inc _ | .dec _ | .push _ | .pop _ | .ret _ => some 1
  | .addHl _ | .incRr _ | .decRr _ => some 2
  | .incMem | .decMem | .jp _ | .call _ => some 3
  | .ldByte _ .imm => some 2
  | .ldByte _ (.reg _) | .ldByte _ .memHl => some 1
  | .ldWord _ | .ldIndirectFromA _ | .ldAFromIndirect _ | .ldIndirectFromSp | .rlca | .rrca | .rla | .rra => none

/-! ### The encoder -/

/-- The register field `r` (R85). -/
def Reg8.code : Reg8 → Byte
  | .b => 0 | .c => 1 | .d => 2 | .e => 3 | .h => 4 | .l => 5 | .a => 7

/-- The field `rr` (R86). -/
def PairOrSp.code : PairOrSp → Byte
  | .bc => 0 | .de => 1 | .hl => 2 | .sp => 3

/-- The field `qq` (R86). -/
def Pair.code : Pair → Byte
  | .bc => 0 | .de => 1 | .hl => 2 | .af => 3

/-- A load target in the register field: code 6 is memory through HL (R85). -/
def Target.code : Target → Byte
  | .reg r => r.code
  | .memHl => 6

/-- The opcode of a test's form: its own byte for `always`, else the pattern with the field `cc` at bits 4:3 (R86). -/
def Test.opcode (always pattern : Byte) : Test → Byte
  | .always => always
  | .notZero => pattern ||| (0 <<< 3)
  | .zero => pattern ||| (1 <<< 3)
  | .notCarry => pattern ||| (2 <<< 3)
  | .carry => pattern ||| (3 <<< 3)

/-- The opcode of an unimplemented store of A (R178). -/
def Indirect.storeOpcode : Indirect → Byte
  | .bc => 0x02 | .de => 0x12 | .hlInc => 0x22 | .hlDec => 0x32 | .highA8 => 0xE0 | .highC => 0xE2 | .a16 => 0xEA

/-- The opcode of an unimplemented load of A (R179). -/
def Indirect.loadOpcode : Indirect → Byte
  | .bc => 0x0A | .de => 0x1A | .hlInc => 0x2A | .hlDec => 0x3A | .highA8 => 0xF0 | .highC => 0xF2 | .a16 => 0xFA

/-- The opcode byte of a descriptor, by the patterns of R90 and of each rule's Encoding line. -/
def Descriptor.opcode : Descriptor → Byte
  | .nop => 0x00
  | .add r => 0x80 ||| r.code
  | .addHl rr => 0x09 ||| (rr.code <<< 4)
  | .inc r => 0x04 ||| (r.code <<< 3)
  | .dec r => 0x05 ||| (r.code <<< 3)
  | .incRr rr => 0x03 ||| (rr.code <<< 4)
  | .decRr rr => 0x0B ||| (rr.code <<< 4)
  | .incMem => 0x34
  | .decMem => 0x35
  | .ldByte target .imm => 0x06 ||| (target.code <<< 3)
  | .ldByte target (.reg r) => 0x40 ||| (target.code <<< 3) ||| r.code
  | .ldByte target .memHl => 0x40 ||| (target.code <<< 3) ||| 6
  | .ldWord rr => 0x01 ||| (rr.code <<< 4)
  | .ldIndirectFromA x => x.storeOpcode
  | .ldAFromIndirect x => x.loadOpcode
  | .ldIndirectFromSp => 0x08
  | .jp test => test.opcode 0xC3 0xC2
  | .call test => test.opcode 0xCD 0xC4
  | .ret test => test.opcode 0xC9 0xC0
  | .push qq => 0xC5 ||| (qq.code <<< 4)
  | .pop qq => 0xC1 ||| (qq.code <<< 4)
  | .rlca => 0x07
  | .rrca => 0x0F
  | .rla => 0x17
  | .rra => 0x1F

/-- The opcode bytes of a row: one byte, or 0xCB and one byte (R80). -/
def Row.bytes : Row → List Byte
  | .descriptor d => [d.opcode]
  | .miss byte false => [byte]
  | .miss byte true => [Config.cbByte, byte]

/-- The opcode bytes of an instruction, the first at the lowest address. -/
def encode (i : Instr) : List Byte := i.row.bytes

/-! ### The opcode table's numbering -/

/-- The three bytes that `nbits` bits of `w` stand for, the first at the lowest address, zero above `nbits`.
Bits 7..0 are the first byte. The table numbers its one 16-bit row (0xCB00, mask 0xFF00) with the FIRST byte in
bits 15..8, and no other row has more than 8 bits; so a 16-bit number with 0xCB there is read in that order
(log entry 7). -/
def tableBytes (nbits w : Nat) : List Byte :=
  let v := w % 2 ^ nbits
  if nbits = 16 ∧ v / 256 = 0xCB then [BitVec.ofNat 8 (v / 256), BitVec.ofNat 8 v, 0]
  else [BitVec.ofNat 8 v, BitVec.ofNat 8 (v / 256), BitVec.ofNat 8 (v / 65536)]

/-- The instruction the decoder reads from a word numbered as spec/opcode_table.json numbers it. -/
def decodeTableWord (nbits w : Nat) : Option Instr :=
  match decodeBytes (tableBytes nbits w) with
  | .ok (i, _) => some i
  | .error _ => none

end Sys2Proof
end

