-- ==== Sys2Proof/Machine/Bits.lean ====
section
/-!
DEFINITION. Taking a word apart and putting it together (00_scope.md R11).
-/

namespace Sys2Proof.Machine

/-- `hi8(v)`, that is `v[15:8]` (R11). -/
def hi8 (v : Word) : Byte := (v >>> 8).setWidth 8

/-- `lo8(v)`, that is `v[7:0]` (R11). -/
def lo8 (v : Word) : Byte := v.setWidth 8

/-- `hi ++ lo`, that is `(zext_16(hi) << 8) | zext_16(lo)` (R11). -/
def join (hi lo : Byte) : Word := (hi.setWidth 16 <<< 8) ||| lo.setWidth 16

end Sys2Proof.Machine
end

