-- ==== Sys2Proof/Machine/State.lean ====
section
/-!
DEFINITION. The state record of 10_state.md R20, the fatal conditions of 60_exceptions.md, and construction
(10_state.md R39; 70_reset_and_hazards.md R260, R261).
-/

namespace Sys2Proof.Machine

/-- The Flags value: four independent booleans, with no stored F byte (R22). -/
structure Flags where
  z : Bool
  n : Bool
  h : Bool
  c : Bool
  deriving DecidableEq, Repr

/-- The two fatal conditions (R230 to R232). A step that raises one records it in the state (R233); `step` answers
`fault` with it from then on (R118). -/
inductive Fault where
  /-- R230: decode found no mapping for `byte`; `prefixed` when it followed 0xCB. Raised by the two miss rows. Safe:
  the spec names this condition and ends the run with it. -/
  | unknownOpcode (byte : Byte) (prefixed : Bool)
  /-- R231: decode succeeded and the descriptor has no defined behaviour. Raised by the unimplemented rows
  (R177 to R180, R221 to R224). Safe: the spec names this condition and ends the run with it. -/
  | unimplementedInstruction (instruction : Descriptor)
  deriving DecidableEq, Repr

/-- Reasons the MODEL has no answer. -/
inductive Refusal where
  /-- An instruction with no meaning yet; raised by `exec`'s arm alone. Safe: nothing follows it. No arm raises it. -/
  | notModelled (mnemonic : String)
  deriving DecidableEq, Repr

/-- Bytes by key: strictly rising keys, no cell equal to `Config.unlistedByte` (`Memory.wf`). -/
abbrev Memory := List Host.Cell

/-- The architectural state: "exactly the following record" (R20). -/
structure State where
  a : Byte
  b : Byte
  c : Byte
  d : Byte
  e : Byte
  h : Byte
  l : Byte
  f : Flags
  sp : Word
  pc : Word
  halted : Bool
  mem : Memory
  vram : Memory
  fault : Option Fault
  deriving DecidableEq, Repr

/-- The three outcomes of a meaning or a step. -/
abbrev Result := Host.Outcome State Fault Refusal

/-- `new(boot_image, cartridge_image)` (R244, R260): the state of R39 for the parameters `p`. Both images are accepted
and mapped nowhere. -/
def State.construct (p : ResetParams) (_bootImage : Option (List Byte)) (_cartridgeImage : List Byte) : State :=
  { a := p.regA, b := p.regB, c := p.regC, d := p.regD, e := p.regE, h := p.regH, l := p.regL,
    f := { z := p.flagZ, n := p.flagN, h := p.flagH, c := p.flagC },
    sp := p.resetSp, pc := p.resetPc, halted := false, mem := p.initMem, vram := p.initVram, fault := none }

/-- The machine right after construction, at the parameter values the model names (log entries 3 and 4). -/
def State.reset : State := State.construct Config.zeroParams none []

end Sys2Proof.Machine
end

