-- ==== Sys2Proof/Machine/Flags.lean ====
section
/-!
DEFINITION. The flags byte (10_state.md R23, R24), the flag computations of 41_alu.md (R130 to R135) and the tests
of 43_control.md (R190).
-/

namespace Sys2Proof.Machine

/-- `to_byte(F)` (R23). -/
def Flags.toByte (f : Flags) : Byte :=
  (if f.z then 0x80 else 0) ||| (if f.n then 0x40 else 0) ||| (if f.h then 0x20 else 0) ||| (if f.c then 0x10 else 0)

/-- `from_byte(v)` (R24): bits 3 to 0 are discarded. -/
def Flags.fromByte (v : Byte) : Flags :=
  { z := v.getLsbD 7, n := v.getLsbD 6, h := v.getLsbD 5, c := v.getLsbD 4 }

/-- The 8-bit addition of ADD A,r with its flags (R130, R134). -/
def add8 (a v : Byte) : Byte × Flags :=
  (a + v,
   { z := a + v == 0
     n := false
     h := decide ((a &&& 0x0F).toNat + (v &&& 0x0F).toNat > 0x0F)
     c := decide (a.toNat + v.toNat > 0xFF) })

/-- The 16-bit addition of ADD HL,rr with its flags (R131, R135): the half-carry is the carry out of bit 7
(90_conflicts.md C6), and Z is written (C7). -/
def add16 (x v : Word) : Word × Flags :=
  (x + v,
   { z := x + v == 0
     n := false
     h := decide ((x &&& 0x00FF).toNat + (v &&& 0x00FF).toNat > 0xFF)
     c := decide (x.toNat + v.toNat > 0xFFFF) })

/-- `Inc8(v)` (R132): C is written (90_conflicts.md C8). -/
def inc8 (v : Byte) : Byte × Flags :=
  (v + 1,
   { z := v + 1 == 0
     n := false
     h := decide ((v &&& 0x0F).toNat + 1 > 0x0F)
     c := decide (v.toNat + 1 > 0xFF) })

/-- `Dec8(v)` (R133): C keeps the value `carry` it had. -/
def dec8 (v : Byte) (carry : Bool) : Byte × Flags :=
  (v - 1,
   { z := v - 1 == 0
     n := true
     h := v &&& 0x0F == 0
     c := carry })

/-- `test(F)` (R190). -/
def testHolds (f : Flags) : Test → Bool
  | .always => true
  | .zero => f.z
  | .notZero => !f.z
  | .carry => f.c
  | .notCarry => !f.c

end Sys2Proof.Machine
end

