-- ==== Sys2Proof/Machine/Ops.lean ====
section
/-!
DEFINITION. The shared operations: memory cells, the bus (20_memory.md), the stack (44_stack.md R210, R211), fetch
(40_engine.md R113), committing the next pc (R115), and raising a fatal condition (60_exceptions.md R233).
-/

namespace Sys2Proof.Machine

/-! ### Cells -/

/-- The byte at a key; an unlisted key reads `Config.unlistedByte` (log entry 4). -/
def Memory.read : Memory → Nat → Byte
  | [], _ => Config.unlistedByte
  | (k, v) :: m, a => if k = a then v else Memory.read m a

/-- List the byte `v` at a key, keeping the keys rising. -/
def Memory.insert : Memory → Nat → Byte → Memory
  | [], a, v => [(a, v)]
  | (k, w) :: m, a, v =>
    if a < k then (a, v) :: (k, w) :: m
    else if a = k then (a, v) :: m
    else (k, w) :: Memory.insert m a v

/-- Unlist a key. -/
def Memory.erase (m : Memory) (a : Nat) : Memory := m.filter (fun cell => cell.1 != a)

/-- Write a byte; a byte equal to what an unlisted key reads as is unlisted, so that equal memories are equal data. -/
def Memory.write (m : Memory) (a : Nat) (v : Byte) : Memory :=
  if v = Config.unlistedByte then Memory.erase m a else Memory.insert m a v

/-- The canonical form: strictly rising keys, no cell equal to what an unlisted key reads as. -/
def Memory.wf : Memory → Bool
  | [] => true
  | (k, v) :: m => v != Config.unlistedByte && m.all (fun cell => decide (k < cell.1)) && Memory.wf m

/-! ### The bus -/

/-- Is the address in the VRAM window (R53)? -/
def inWindow (a : Word) : Bool := decide (Config.windowBase ≤ a.toNat ∧ a.toNat ≤ Config.windowLast)

/-- The device offset of a window address (R53, R56). -/
def vramOffset (a : Word) : Nat := a.toNat - Config.windowBase

/-- `read_vram(offset)` (R56, R57). -/
def readVram (s : State) (offset : Nat) : Byte := s.vram.read offset

/-- `write_vram(offset, value)` (R56, R57). -/
def writeVram (s : State) (offset : Nat) (v : Byte) : State := { s with vram := s.vram.write offset v }

/-- `MemRead(a, 1)` (R54); a read changes nothing (R59). -/
def memRead (s : State) (a : Word) : Byte :=
  if inWindow a then readVram s (vramOffset a) else s.mem.read a.toNat

/-- `MemWrite(a, 1, v)` (R55). -/
def memWrite (s : State) (a : Word) (v : Byte) : State :=
  if inWindow a then writeVram s (vramOffset a) v else { s with mem := s.mem.write a.toNat v }

/-- `Read16LE(a)` (R13): the low byte at `a`, the high byte at `a + 1` modulo 65536. -/
def read16 (s : State) (a : Word) : Word := join (memRead s (a + 1)) (memRead s a)

/-- Both memories are canonical; no local cell lies outside the address space or under the window, whose local bytes
are not held (R58); no VRAM cell lies outside the device. -/
def State.wf (s : State) : Bool :=
  s.mem.wf && s.vram.wf
    && s.mem.all (fun cell => decide (cell.1 < Config.addressCount)
        && !decide (Config.windowBase ≤ cell.1 ∧ cell.1 ≤ Config.windowLast))
    && s.vram.all (fun cell => decide (cell.1 < Config.vramSize))

/-! ### The stack -/

/-- `Push16(v)` (R210): the high byte at `sp - 1`, then the low byte at `sp - 2`. -/
def push16 (s : State) (v : Word) : State :=
  let s1 := { s with sp := s.sp - 1 }
  let s2 := memWrite s1 s1.sp (hi8 v)
  let s3 := { s2 with sp := s2.sp - 1 }
  memWrite s3 s3.sp (lo8 v)

/-- `Pop16()` (R211): the low byte at `sp`, then the high byte at `sp + 1`; the value and the state after. -/
def pop16 (s : State) : Word × State :=
  let lo := memRead s s.sp
  let s1 := { s with sp := s.sp + 1 }
  let hi := memRead s1 s1.sp
  (join hi lo, { s1 with sp := s1.sp + 1 })

/-! ### The engine -/

/-- Fetch (R113): the byte to decode, and whether it followed 0xCB. -/
def fetch (s : State) : Byte × Bool :=
  let b0 := memRead s s.pc
  if b0 = Config.cbByte then (memRead s (s.pc + 1), true) else (b0, false)

/-- The engine's commit of the next pc (R115). -/
def commit (s : State) (nextPc : Word) : Result := .next { s with pc := nextPc }

/-- Taking a fatal condition (R233, R235): it is recorded in the fault component and nothing else changes; pc keeps the
address of the instruction's first byte. There is no vector, saved state or handler (R235), and no return (R236). -/
def raiseFatal (s : State) (condition : Fault) : Result := .next { s with fault := some condition }

/-- Bytes stored one after the other from an address on, wrapping (R263: a program stands in memory at launch). -/
def storeBytes (s : State) (a : Word) : List Byte → State
  | [] => s
  | v :: rest => storeBytes (memWrite s a v) (a + 1) rest

/-- The launch of one instruction: RUNNING, no condition recorded, the bytes at pc. -/
def loadAtPc (s : State) (bytes : List Byte) : State :=
  storeBytes { s with halted := false, fault := none } s.pc bytes

end Sys2Proof.Machine
end

