-- ==== Sys2Proof/Machine/Operands.lean ====
section
/-!
DEFINITION. Every operand form: the registers (00_scope.md R12), the pairs (10_state.md R27, R28), `rr` with the
stack pointer (R30, R86), and source and target of the byte load (42_load.md R170, R171).
-/

namespace Sys2Proof.Machine

/-- `x[r]` (R12). -/
def readReg (s : State) : Reg8 → Byte
  | .a => s.a
  | .b => s.b
  | .c => s.c
  | .d => s.d
  | .e => s.e
  | .h => s.h
  | .l => s.l

/-- `x[r] <- v` (R12). -/
def writeReg (s : State) (r : Reg8) (v : Byte) : State :=
  match r with
  | .a => { s with a := v }
  | .b => { s with b := v }
  | .c => { s with c := v }
  | .d => { s with d := v }
  | .e => { s with e := v }
  | .h => { s with h := v }
  | .l => { s with l := v }

/-- `pair[p]` (R27). -/
def readPair (s : State) : Pair → Word
  | .bc => join s.b s.c
  | .de => join s.d s.e
  | .hl => join s.h s.l
  | .af => join s.a s.f.toByte

/-- `pair[p] <- v` (R28). -/
def writePair (s : State) (p : Pair) (v : Word) : State :=
  match p with
  | .bc => { s with b := hi8 v, c := lo8 v }
  | .de => { s with d := hi8 v, e := lo8 v }
  | .hl => { s with h := hi8 v, l := lo8 v }
  | .af => { s with a := hi8 v, f := Flags.fromByte (lo8 v) }

/-- The value of `rr`: a pair or the stack pointer (R135, R138, R139). -/
def readRr (s : State) : PairOrSp → Word
  | .bc => readPair s .bc
  | .de => readPair s .de
  | .hl => readPair s .hl
  | .sp => s.sp

/-- Writing `rr`: a pair or the stack pointer (R138, R139). -/
def writeRr (s : State) (rr : PairOrSp) (v : Word) : State :=
  match rr with
  | .bc => writePair s .bc v
  | .de => writePair s .de v
  | .hl => writePair s .hl v
  | .sp => { s with sp := v }

/-- The source of the byte load (R170); the immediate is the byte at `pc + 1` (R82). -/
def readSource (s : State) : Source → Byte
  | .reg r => readReg s r
  | .memHl => memRead s (readPair s .hl)
  | .imm => memRead s (s.pc + 1)

/-- Writing the target of the byte load (R171). -/
def writeTarget (s : State) (target : Target) (v : Byte) : State :=
  match target with
  | .reg r => writeReg s r v
  | .memHl => memWrite s (readPair s .hl) v

end Sys2Proof.Machine
end

