-- ==== Sys2Proof/Machine/Alu.lean ====
section
/-!
DEFINITION. 41_alu.md: ADD A,r; ADD HL,rr; INC and DEC of a register, of a pair or sp, and of memory through HL.
-/

namespace Sys2Proof.Machine

/-! ### The family's operations -/

/-- ADD A,r (R134): both operands are read before any write. -/
def addAccumulator (r : Reg8) (s : State) : Result :=
  let (new, flags) := add8 s.a (readReg s r)
  commit { s with a := new, f := flags } (s.pc + 1)

/-- ADD HL,rr (R135): pc advances over one skip byte. -/
def addHl (rr : PairOrSp) (s : State) : Result :=
  let (new, flags) := add16 (readPair s .hl) (readRr s rr)
  commit (writePair { s with f := flags } .hl new) (s.pc + 2)

/-- INC r (R136). -/
def incReg (r : Reg8) (s : State) : Result :=
  let (new, flags) := inc8 (readReg s r)
  commit { writeReg s r new with f := flags } (s.pc + 1)

/-- DEC r (R137). -/
def decReg (r : Reg8) (s : State) : Result :=
  let (new, flags) := dec8 (readReg s r) s.f.c
  commit { writeReg s r new with f := flags } (s.pc + 1)

/-- INC rr (R138): no flag; pc advances over one skip byte. -/
def incRr (rr : PairOrSp) (s : State) : Result :=
  commit (writeRr s rr (readRr s rr + 1)) (s.pc + 2)

/-- DEC rr (R139): no flag; pc advances over one skip byte. -/
def decRr (rr : PairOrSp) (s : State) : Result :=
  commit (writeRr s rr (readRr s rr - 1)) (s.pc + 2)

/-- INC (HL) (R140): pc advances over two skip bytes. -/
def incMem (s : State) : Result :=
  let addr := readPair s .hl
  let (new, flags) := inc8 (memRead s addr)
  commit { memWrite s addr new with f := flags } (s.pc + 3)

/-- DEC (HL) (R141): pc advances over two skip bytes. -/
def decMem (s : State) : Result :=
  let addr := readPair s .hl
  let (new, flags) := dec8 (memRead s addr) s.f.c
  commit { memWrite s addr new with f := flags } (s.pc + 3)

/-! ### The instructions -/

/-- INC BC (R138). -/
def execIncBc (s : State) : Result := incRr .bc s

/-- INC B (R136). -/
def execIncB (s : State) : Result := incReg .b s

/-- DEC B (R137). -/
def execDecB (s : State) : Result := decReg .b s

/-- ADD HL,BC (R135). -/
def execAddHlBc (s : State) : Result := addHl .bc s

/-- DEC BC (R139). -/
def execDecBc (s : State) : Result := decRr .bc s

/-- INC C (R136). -/
def execIncC (s : State) : Result := incReg .c s

/-- DEC C (R137). -/
def execDecC (s : State) : Result := decReg .c s

/-- INC DE (R138). -/
def execIncDe (s : State) : Result := incRr .de s

/-- INC D (R136). -/
def execIncD (s : State) : Result := incReg .d s

/-- DEC D (R137). -/
def execDecD (s : State) : Result := decReg .d s

/-- ADD HL,DE (R135). -/
def execAddHlDe (s : State) : Result := addHl .de s

/-- DEC DE (R139). -/
def execDecDe (s : State) : Result := decRr .de s

/-- INC E (R136). -/
def execIncE (s : State) : Result := incReg .e s

/-- DEC E (R137). -/
def execDecE (s : State) : Result := decReg .e s

/-- INC H (R136). -/
def execIncH (s : State) : Result := incReg .h s

/-- DEC H (R137). -/
def execDecH (s : State) : Result := decReg .h s

/-- ADD HL,HL (R135). -/
def execAddHlHl (s : State) : Result := addHl .hl s

/-- INC L (R136). -/
def execIncL (s : State) : Result := incReg .l s

/-- DEC L (R137). -/
def execDecL (s : State) : Result := decReg .l s

/-- INC SP (R138). -/
def execIncSp (s : State) : Result := incRr .sp s

/-- INC (HL) (R140). -/
def execIncIndHl (s : State) : Result := incMem s

/-- DEC (HL) (R141). -/
def execDecIndHl (s : State) : Result := decMem s

/-- ADD HL,SP (R135). -/
def execAddHlSp (s : State) : Result := addHl .sp s

/-- DEC SP (R139). -/
def execDecSp (s : State) : Result := decRr .sp s

/-- INC A (R136). -/
def execIncA (s : State) : Result := incReg .a s

/-- DEC A (R137). -/
def execDecA (s : State) : Result := decReg .a s

/-- ADD A,B (R134). -/
def execAddAB (s : State) : Result := addAccumulator .b s

/-- ADD A,C (R134). -/
def execAddAC (s : State) : Result := addAccumulator .c s

/-- ADD A,D (R134). -/
def execAddAD (s : State) : Result := addAccumulator .d s

/-- ADD A,E (R134). -/
def execAddAE (s : State) : Result := addAccumulator .e s

/-- ADD A,H (R134). -/
def execAddAH (s : State) : Result := addAccumulator .h s

/-- ADD A,L (R134). -/
def execAddAL (s : State) : Result := addAccumulator .l s

/-- ADD A,A (R134). -/
def execAddAA (s : State) : Result := addAccumulator .a s

end Sys2Proof.Machine
end

