-- ==== Sys2Proof/Machine/Control.lean ====
section
/-!
DEFINITION. 43_control.md: JP, CALL and RET, unconditional and with each test.
-/

namespace Sys2Proof.Machine

/-! ### The family's operations -/

/-- JP test (R191). -/
def jump (test : Test) (s : State) : Result :=
  if testHolds s.f test then commit s (read16 s (s.pc + 1)) else commit s (s.pc + 3)

/-- CALL test (R192): the return address is pushed before the target is read (20_memory.md R73). -/
def call (test : Test) (s : State) : Result :=
  if testHolds s.f test then
    let pushed := push16 s (s.pc + 3)
    commit pushed (read16 pushed (s.pc + 1))
  else commit s (s.pc + 3)

/-- RET test (R193). -/
def ret (test : Test) (s : State) : Result :=
  if testHolds s.f test then
    let (target, popped) := pop16 s
    commit popped target
  else commit s (s.pc + 1)

/-! ### The instructions -/

/-- RET NZ (R193). -/
def execRetNz (s : State) : Result := ret .notZero s

/-- JP NZ,a16 (R191). -/
def execJpNz (s : State) : Result := jump .notZero s

/-- JP a16 (R191). -/
def execJp (s : State) : Result := jump .always s

/-- CALL NZ,a16 (R192). -/
def execCallNz (s : State) : Result := call .notZero s

/-- RET Z (R193). -/
def execRetZ (s : State) : Result := ret .zero s

/-- RET (R193). -/
def execRet (s : State) : Result := ret .always s

/-- JP Z,a16 (R191). -/
def execJpZ (s : State) : Result := jump .zero s

/-- CALL Z,a16 (R192). -/
def execCallZ (s : State) : Result := call .zero s

/-- CALL a16 (R192). -/
def execCall (s : State) : Result := call .always s

/-- RET NC (R193). -/
def execRetNc (s : State) : Result := ret .notCarry s

/-- JP NC,a16 (R191). -/
def execJpNc (s : State) : Result := jump .notCarry s

/-- CALL NC,a16 (R192). -/
def execCallNc (s : State) : Result := call .notCarry s

/-- RET C (R193). -/
def execRetC (s : State) : Result := ret .carry s

/-- JP C,a16 (R191). -/
def execJpC (s : State) : Result := jump .carry s

/-- CALL C,a16 (R192). -/
def execCallC (s : State) : Result := call .carry s

end Sys2Proof.Machine
end

