-- ==== Sys2Proof/Machine/Load.lean ====
section
/-!
DEFINITION. 42_load.md: the byte load in every form, and the decoded but unimplemented loads.
-/

namespace Sys2Proof.Machine

/-! ### The family's operations -/

/-- The byte load's pc advance: "pc+=2 if source was an immediate, else pc+=1" (R175). -/
def ldAdvance : Source → Word
  | .imm => 2
  | .reg _ | .memHl => 1

/-- LD Byte(target, source) (R170 to R176): the source is resolved before the target is written. -/
def ldByte (target : Target) (source : Source) (s : State) : Result :=
  commit (writeTarget s target (readSource s source)) (s.pc + ldAdvance source)

/-- A descriptor with no defined behaviour (40_engine.md R116, R231): the condition is raised before any effect. -/
def unimplemented (instruction : Descriptor) (s : State) : Result :=
  raiseFatal s (.unimplementedInstruction instruction)

/-! ### The instructions -/

/-- LD BC,d16 (R177). -/
def execLdBcD16 (s : State) : Result := unimplemented (.ldWord .bc) s

/-- LD (BC),A (R178). -/
def execLdIndBcA (s : State) : Result := unimplemented (.ldIndirectFromA .bc) s

/-- LD B,d8 (R175). -/
def execLdBD8 (s : State) : Result := ldByte (.reg .b) .imm s

/-- LD (a16),SP (R180). -/
def execLdIndA16Sp (s : State) : Result := unimplemented .ldIndirectFromSp s

/-- LD A,(BC) (R179). -/
def execLdAIndBc (s : State) : Result := unimplemented (.ldAFromIndirect .bc) s

/-- LD C,d8 (R175). -/
def execLdCD8 (s : State) : Result := ldByte (.reg .c) .imm s

/-- LD DE,d16 (R177). -/
def execLdDeD16 (s : State) : Result := unimplemented (.ldWord .de) s

/-- LD (DE),A (R178). -/
def execLdIndDeA (s : State) : Result := unimplemented (.ldIndirectFromA .de) s

/-- LD D,d8 (R175). -/
def execLdDD8 (s : State) : Result := ldByte (.reg .d) .imm s

/-- LD A,(DE) (R179). -/
def execLdAIndDe (s : State) : Result := unimplemented (.ldAFromIndirect .de) s

/-- LD E,d8 (R175). -/
def execLdED8 (s : State) : Result := ldByte (.reg .e) .imm s

/-- LD HL,d16 (R177). -/
def execLdHlD16 (s : State) : Result := unimplemented (.ldWord .hl) s

/-- LD (HL+),A (R178). -/
def execLdIndHlIncA (s : State) : Result := unimplemented (.ldIndirectFromA .hlInc) s

/-- LD H,d8 (R175). -/
def execLdHD8 (s : State) : Result := ldByte (.reg .h) .imm s

/-- LD A,(HL+) (R179). -/
def execLdAIndHlInc (s : State) : Result := unimplemented (.ldAFromIndirect .hlInc) s

/-- LD L,d8 (R175). -/
def execLdLD8 (s : State) : Result := ldByte (.reg .l) .imm s

/-- LD SP,d16 (R177). -/
def execLdSpD16 (s : State) : Result := unimplemented (.ldWord .sp) s

/-- LD (HL-),A (R178). -/
def execLdIndHlDecA (s : State) : Result := unimplemented (.ldIndirectFromA .hlDec) s

/-- LD (HL),d8 (R176). -/
def execLdIndHlD8 (s : State) : Result := ldByte .memHl .imm s

/-- LD A,(HL-) (R179). -/
def execLdAIndHlDec (s : State) : Result := unimplemented (.ldAFromIndirect .hlDec) s

/-- LD A,d8 (R175). -/
def execLdAD8 (s : State) : Result := ldByte (.reg .a) .imm s

/-- LD B,B (R172). -/
def execLdBB (s : State) : Result := ldByte (.reg .b) (.reg .b) s

/-- LD B,C (R172). -/
def execLdBC (s : State) : Result := ldByte (.reg .b) (.reg .c) s

/-- LD B,D (R172). -/
def execLdBD (s : State) : Result := ldByte (.reg .b) (.reg .d) s

/-- LD B,E (R172). -/
def execLdBE (s : State) : Result := ldByte (.reg .b) (.reg .e) s

/-- LD B,H (R172). -/
def execLdBH (s : State) : Result := ldByte (.reg .b) (.reg .h) s

/-- LD B,L (R172). -/
def execLdBL (s : State) : Result := ldByte (.reg .b) (.reg .l) s

/-- LD B,(HL) (R173). -/
def execLdBIndHl (s : State) : Result := ldByte (.reg .b) .memHl s

/-- LD B,A (R172). -/
def execLdBA (s : State) : Result := ldByte (.reg .b) (.reg .a) s

/-- LD C,B (R172). -/
def execLdCB (s : State) : Result := ldByte (.reg .c) (.reg .b) s

/-- LD C,C (R172). -/
def execLdCC (s : State) : Result := ldByte (.reg .c) (.reg .c) s

/-- LD C,D (R172). -/
def execLdCD (s : State) : Result := ldByte (.reg .c) (.reg .d) s

/-- LD C,E (R172). -/
def execLdCE (s : State) : Result := ldByte (.reg .c) (.reg .e) s

/-- LD C,H (R172). -/
def execLdCH (s : State) : Result := ldByte (.reg .c) (.reg .h) s

/-- LD C,L (R172). -/
def execLdCL (s : State) : Result := ldByte (.reg .c) (.reg .l) s

/-- LD C,(HL) (R173). -/
def execLdCIndHl (s : State) : Result := ldByte (.reg .c) .memHl s

/-- LD C,A (R172). -/
def execLdCA (s : State) : Result := ldByte (.reg .c) (.reg .a) s

/-- LD D,B (R172). -/
def execLdDB (s : State) : Result := ldByte (.reg .d) (.reg .b) s

/-- LD D,C (R172). -/
def execLdDC (s : State) : Result := ldByte (.reg .d) (.reg .c) s

/-- LD D,D (R172). -/
def execLdDD (s : State) : Result := ldByte (.reg .d) (.reg .d) s

/-- LD D,E (R172). -/
def execLdDE (s : State) : Result := ldByte (.reg .d) (.reg .e) s

/-- LD D,H (R172). -/
def execLdDH (s : State) : Result := ldByte (.reg .d) (.reg .h) s

/-- LD D,L (R172). -/
def execLdDL (s : State) : Result := ldByte (.reg .d) (.reg .l) s

/-- LD D,(HL) (R173). -/
def execLdDIndHl (s : State) : Result := ldByte (.reg .d) .memHl s

/-- LD D,A (R172). -/
def execLdDA (s : State) : Result := ldByte (.reg .d) (.reg .a) s

/-- LD E,B (R172). -/
def execLdEB (s : State) : Result := ldByte (.reg .e) (.reg .b) s

/-- LD E,C (R172). -/
def execLdEC (s : State) : Result := ldByte (.reg .e) (.reg .c) s

/-- LD E,D (R172). -/
def execLdED (s : State) : Result := ldByte (.reg .e) (.reg .d) s

/-- LD E,E (R172). -/
def execLdEE (s : State) : Result := ldByte (.reg .e) (.reg .e) s

/-- LD E,H (R172). -/
def execLdEH (s : State) : Result := ldByte (.reg .e) (.reg .h) s

/-- LD E,L (R172). -/
def execLdEL (s : State) : Result := ldByte (.reg .e) (.reg .l) s

/-- LD E,(HL) (R173). -/
def execLdEIndHl (s : State) : Result := ldByte (.reg .e) .memHl s

/-- LD E,A (R172). -/
def execLdEA (s : State) : Result := ldByte (.reg .e) (.reg .a) s

/-- LD H,B (R172). -/
def execLdHB (s : State) : Result := ldByte (.reg .h) (.reg .b) s

/-- LD H,C (R172). -/
def execLdHC (s : State) : Result := ldByte (.reg .h) (.reg .c) s

/-- LD H,D (R172). -/
def execLdHD (s : State) : Result := ldByte (.reg .h) (.reg .d) s

/-- LD H,E (R172). -/
def execLdHE (s : State) : Result := ldByte (.reg .h) (.reg .e) s

/-- LD H,H (R172). -/
def execLdHH (s : State) : Result := ldByte (.reg .h) (.reg .h) s

/-- LD H,L (R172). -/
def execLdHL (s : State) : Result := ldByte (.reg .h) (.reg .l) s

/-- LD H,(HL) (R173). -/
def execLdHIndHl (s : State) : Result := ldByte (.reg .h) .memHl s

/-- LD H,A (R172). -/
def execLdHA (s : State) : Result := ldByte (.reg .h) (.reg .a) s

/-- LD L,B (R172). -/
def execLdLB (s : State) : Result := ldByte (.reg .l) (.reg .b) s

/-- LD L,C (R172). -/
def execLdLC (s : State) : Result := ldByte (.reg .l) (.reg .c) s

/-- LD L,D (R172). -/
def execLdLD (s : State) : Result := ldByte (.reg .l) (.reg .d) s

/-- LD L,E (R172). -/
def execLdLE (s : State) : Result := ldByte (.reg .l) (.reg .e) s

/-- LD L,H (R172). -/
def execLdLH (s : State) : Result := ldByte (.reg .l) (.reg .h) s

/-- LD L,L (R172). -/
def execLdLL (s : State) : Result := ldByte (.reg .l) (.reg .l) s

/-- LD L,(HL) (R173). -/
def execLdLIndHl (s : State) : Result := ldByte (.reg .l) .memHl s

/-- LD L,A (R172). -/
def execLdLA (s : State) : Result := ldByte (.reg .l) (.reg .a) s

/-- LD (HL),B (R174). -/
def execLdIndHlB (s : State) : Result := ldByte .memHl (.reg .b) s

/-- LD (HL),C (R174). -/
def execLdIndHlC (s : State) : Result := ldByte .memHl (.reg .c) s

/-- LD (HL),D (R174). -/
def execLdIndHlD (s : State) : Result := ldByte .memHl (.reg .d) s

/-- LD (HL),E (R174). -/
def execLdIndHlE (s : State) : Result := ldByte .memHl (.reg .e) s

/-- LD (HL),H (R174). -/
def execLdIndHlH (s : State) : Result := ldByte .memHl (.reg .h) s

/-- LD (HL),L (R174). -/
def execLdIndHlL (s : State) : Result := ldByte .memHl (.reg .l) s

/-- LD (HL),A (R174). -/
def execLdIndHlA (s : State) : Result := ldByte .memHl (.reg .a) s

/-- LD A,B (R172). -/
def execLdAB (s : State) : Result := ldByte (.reg .a) (.reg .b) s

/-- LD A,C (R172). -/
def execLdAC (s : State) : Result := ldByte (.reg .a) (.reg .c) s

/-- LD A,D (R172). -/
def execLdAD (s : State) : Result := ldByte (.reg .a) (.reg .d) s

/-- LD A,E (R172). -/
def execLdAE (s : State) : Result := ldByte (.reg .a) (.reg .e) s

/-- LD A,H (R172). -/
def execLdAH (s : State) : Result := ldByte (.reg .a) (.reg .h) s

/-- LD A,L (R172). -/
def execLdAL (s : State) : Result := ldByte (.reg .a) (.reg .l) s

/-- LD A,(HL) (R173). -/
def execLdAIndHl (s : State) : Result := ldByte (.reg .a) .memHl s

/-- LD A,A (R172). -/
def execLdAA (s : State) : Result := ldByte (.reg .a) (.reg .a) s

/-- LDH (a8),A (R178). -/
def execLdhIndA8A (s : State) : Result := unimplemented (.ldIndirectFromA .highA8) s

/-- LD (C),A (R178). -/
def execLdIndCA (s : State) : Result := unimplemented (.ldIndirectFromA .highC) s

/-- LD (a16),A (R178). -/
def execLdIndA16A (s : State) : Result := unimplemented (.ldIndirectFromA .a16) s

/-- LDH A,(a8) (R179). -/
def execLdhAIndA8 (s : State) : Result := unimplemented (.ldAFromIndirect .highA8) s

/-- LD A,(C) (R179). -/
def execLdAIndC (s : State) : Result := unimplemented (.ldAFromIndirect .highC) s

/-- LD A,(a16) (R179). -/
def execLdAIndA16 (s : State) : Result := unimplemented (.ldAFromIndirect .a16) s

end Sys2Proof.Machine
end

