-- ==== Sys2Proof/Machine/Misc.lean ====
section
/-!
DEFINITION. 45_misc.md: NOP, the four unimplemented rotates, and the two decode-miss rows.
-/

namespace Sys2Proof.Machine

/-! ### The family's operations -/

/-- NOP (R220). -/
def nop (s : State) : Result := commit s (s.pc + 1)

/-- A decode miss (R114, R230): the missed byte is reported. -/
def unknownOpcode (byte : Byte) (prefixed : Bool) (s : State) : Result :=
  raiseFatal s (.unknownOpcode byte prefixed)

/-! ### The instructions -/

/-- NOP (R220). -/
def execNop (s : State) : Result := nop s

/-- RLCA (R221). -/
def execRlca (s : State) : Result := unimplemented .rlca s

/-- RRCA (R222). -/
def execRrca (s : State) : Result := unimplemented .rrca s

/-- RLA (R223). -/
def execRla (s : State) : Result := unimplemented .rla s

/-- RRA (R224). -/
def execRra (s : State) : Result := unimplemented .rra s

/-- An unprefixed byte with no descriptor (R91, R230). -/
def execDecodeMiss (byte : Byte) (s : State) : Result := unknownOpcode byte false s

/-- A byte of the prefixed space (R88, R225). -/
def execPrefixedDecodeMiss (byte : Byte) (s : State) : Result := unknownOpcode byte true s

end Sys2Proof.Machine
end

