-- ==== Sys2Proof/Machine/Stack.lean ====
section
/-!
DEFINITION. 44_stack.md: PUSH and POP.
-/

namespace Sys2Proof.Machine

/-! ### The family's operations -/

/-- PUSH qq (R212). -/
def push (qq : Pair) (s : State) : Result :=
  commit (push16 s (readPair s qq)) (s.pc + 1)

/-- POP qq (R213). -/
def pop (qq : Pair) (s : State) : Result :=
  let (v, popped) := pop16 s
  commit (writePair popped qq v) (s.pc + 1)

/-! ### The instructions -/

/-- POP BC (R213). -/
def execPopBc (s : State) : Result := pop .bc s

/-- PUSH BC (R212). -/
def execPushBc (s : State) : Result := push .bc s

/-- POP DE (R213). -/
def execPopDe (s : State) : Result := pop .de s

/-- PUSH DE (R212). -/
def execPushDe (s : State) : Result := push .de s

/-- POP HL (R213). -/
def execPopHl (s : State) : Result := pop .hl s

/-- PUSH HL (R212). -/
def execPushHl (s : State) : Result := push .hl s

/-- POP AF (R213). -/
def execPopAf (s : State) : Result := pop .af s

/-- PUSH AF (R212). -/
def execPushAf (s : State) : Result := push .af s

end Sys2Proof.Machine
end

