-- ==== Sys2Proof/Machine/Dispatch.lean ====
section
/-!
DEFINITION. 40_engine.md R119: one arm per instruction.
-/

namespace Sys2Proof.Machine

/-- `execute(instr)` with the engine's commit (R115, R119). -/
def exec (i : Instr) (s : State) : Host.Outcome State Fault Refusal :=
  match i with
  | .nop => Sys2Proof.Machine.execNop s
  | .ldBcD16 => Sys2Proof.Machine.execLdBcD16 s
  | .ldIndBcA => Sys2Proof.Machine.execLdIndBcA s
  | .incBc => Sys2Proof.Machine.execIncBc s
  | .incB => Sys2Proof.Machine.execIncB s
  | .decB => Sys2Proof.Machine.execDecB s
  | .ldBD8 => Sys2Proof.Machine.execLdBD8 s
  | .rlca => Sys2Proof.Machine.execRlca s
  | .ldIndA16Sp => Sys2Proof.Machine.execLdIndA16Sp s
  | .addHlBc => Sys2Proof.Machine.execAddHlBc s
  | .ldAIndBc => Sys2Proof.Machine.execLdAIndBc s
  | .decBc => Sys2Proof.Machine.execDecBc s
  | .incC => Sys2Proof.Machine.execIncC s
  | .decC => Sys2Proof.Machine.execDecC s
  | .ldCD8 => Sys2Proof.Machine.execLdCD8 s
  | .rrca => Sys2Proof.Machine.execRrca s
  | .ldDeD16 => Sys2Proof.Machine.execLdDeD16 s
  | .ldIndDeA => Sys2Proof.Machine.execLdIndDeA s
  | .incDe => Sys2Proof.Machine.execIncDe s
  | .incD => Sys2Proof.Machine.execIncD s
  | .decD => Sys2Proof.Machine.execDecD s
  | .ldDD8 => Sys2Proof.Machine.execLdDD8 s
  | .rla => Sys2Proof.Machine.execRla s
  | .addHlDe => Sys2Proof.Machine.execAddHlDe s
  | .ldAIndDe => Sys2Proof.Machine.execLdAIndDe s
  | .decDe => Sys2Proof.Machine.execDecDe s
  | .incE => Sys2Proof.Machine.execIncE s
  | .decE => Sys2Proof.Machine.execDecE s
  | .ldED8 => Sys2Proof.Machine.execLdED8 s
  | .rra => Sys2Proof.Machine.execRra s
  | .ldHlD16 => Sys2Proof.Machine.execLdHlD16 s
  | .ldIndHlIncA => Sys2Proof.Machine.execLdIndHlIncA s
  | .incH => Sys2Proof.Machine.execIncH s
  | .decH => Sys2Proof.Machine.execDecH s
  | .ldHD8 => Sys2Proof.Machine.execLdHD8 s
  | .addHlHl => Sys2Proof.Machine.execAddHlHl s
  | .ldAIndHlInc => Sys2Proof.Machine.execLdAIndHlInc s
  | .incL => Sys2Proof.Machine.execIncL s
  | .decL => Sys2Proof.Machine.execDecL s
  | .ldLD8 => Sys2Proof.Machine.execLdLD8 s
  | .ldSpD16 => Sys2Proof.Machine.execLdSpD16 s
  | .ldIndHlDecA => Sys2Proof.Machine.execLdIndHlDecA s
  | .incSp => Sys2Proof.Machine.execIncSp s
  | .incIndHl => Sys2Proof.Machine.execIncIndHl s
  | .decIndHl => Sys2Proof.Machine.execDecIndHl s
  | .ldIndHlD8 => Sys2Proof.Machine.execLdIndHlD8 s
  | .addHlSp => Sys2Proof.Machine.execAddHlSp s
  | .ldAIndHlDec => Sys2Proof.Machine.execLdAIndHlDec s
  | .decSp => Sys2Proof.Machine.execDecSp s
  | .incA => Sys2Proof.Machine.execIncA s
  | .decA => Sys2Proof.Machine.execDecA s
  | .ldAD8 => Sys2Proof.Machine.execLdAD8 s
  | .ldBB => Sys2Proof.Machine.execLdBB s
  | .ldBC => Sys2Proof.Machine.execLdBC s
  | .ldBD => Sys2Proof.Machine.execLdBD s
  | .ldBE => Sys2Proof.Machine.execLdBE s
  | .ldBH => Sys2Proof.Machine.execLdBH s
  | .ldBL => Sys2Proof.Machine.execLdBL s
  | .ldBIndHl => Sys2Proof.Machine.execLdBIndHl s
  | .ldBA => Sys2Proof.Machine.execLdBA s
  | .ldCB => Sys2Proof.Machine.execLdCB s
  | .ldCC => Sys2Proof.Machine.execLdCC s
  | .ldCD => Sys2Proof.Machine.execLdCD s
  | .ldCE => Sys2Proof.Machine.execLdCE s
  | .ldCH => Sys2Proof.Machine.execLdCH s
  | .ldCL => Sys2Proof.Machine.execLdCL s
  | .ldCIndHl => Sys2Proof.Machine.execLdCIndHl s
  | .ldCA => Sys2Proof.Machine.execLdCA s
  | .ldDB => Sys2Proof.Machine.execLdDB s
  | .ldDC => Sys2Proof.Machine.execLdDC s
  | .ldDD => Sys2Proof.Machine.execLdDD s
  | .ldDE => Sys2Proof.Machine.execLdDE s
  | .ldDH => Sys2Proof.Machine.execLdDH s
  | .ldDL => Sys2Proof.Machine.execLdDL s
  | .ldDIndHl => Sys2Proof.Machine.execLdDIndHl s
  | .ldDA => Sys2Proof.Machine.execLdDA s
  | .ldEB => Sys2Proof.Machine.execLdEB s
  | .ldEC => Sys2Proof.Machine.execLdEC s
  | .ldED => Sys2Proof.Machine.execLdED s
  | .ldEE => Sys2Proof.Machine.execLdEE s
  | .ldEH => Sys2Proof.Machine.execLdEH s
  | .ldEL => Sys2Proof.Machine.execLdEL s
  | .ldEIndHl => Sys2Proof.Machine.execLdEIndHl s
  | .ldEA => Sys2Proof.Machine.execLdEA s
  | .ldHB => Sys2Proof.Machine.execLdHB s
  | .ldHC => Sys2Proof.Machine.execLdHC s
  | .ldHD => Sys2Proof.Machine.execLdHD s
  | .ldHE => Sys2Proof.Machine.execLdHE s
  | .ldHH => Sys2Proof.Machine.execLdHH s
  | .ldHL => Sys2Proof.Machine.execLdHL s
  | .ldHIndHl => Sys2Proof.Machine.execLdHIndHl s
  | .ldHA => Sys2Proof.Machine.execLdHA s
  | .ldLB => Sys2Proof.Machine.execLdLB s
  | .ldLC => Sys2Proof.Machine.execLdLC s
  | .ldLD => Sys2Proof.Machine.execLdLD s
  | .ldLE => Sys2Proof.Machine.execLdLE s
  | .ldLH => Sys2Proof.Machine.execLdLH s
  | .ldLL => Sys2Proof.Machine.execLdLL s
  | .ldLIndHl => Sys2Proof.Machine.execLdLIndHl s
  | .ldLA => Sys2Proof.Machine.execLdLA s
  | .ldIndHlB => Sys2Proof.Machine.execLdIndHlB s
  | .ldIndHlC => Sys2Proof.Machine.execLdIndHlC s
  | .ldIndHlD => Sys2Proof.Machine.execLdIndHlD s
  | .ldIndHlE => Sys2Proof.Machine.execLdIndHlE s
  | .ldIndHlH => Sys2Proof.Machine.execLdIndHlH s
  | .ldIndHlL => Sys2Proof.Machine.execLdIndHlL s
  | .ldIndHlA => Sys2Proof.Machine.execLdIndHlA s
  | .ldAB => Sys2Proof.Machine.execLdAB s
  | .ldAC => Sys2Proof.Machine.execLdAC s
  | .ldAD => Sys2Proof.Machine.execLdAD s
  | .ldAE => Sys2Proof.Machine.execLdAE s
  | .ldAH => Sys2Proof.Machine.execLdAH s
  | .ldAL => Sys2Proof.Machine.execLdAL s
  | .ldAIndHl => Sys2Proof.Machine.execLdAIndHl s
  | .ldAA => Sys2Proof.Machine.execLdAA s
  | .addAB => Sys2Proof.Machine.execAddAB s
  | .addAC => Sys2Proof.Machine.execAddAC s
  | .addAD => Sys2Proof.Machine.execAddAD s
  | .addAE => Sys2Proof.Machine.execAddAE s
  | .addAH => Sys2Proof.Machine.execAddAH s
  | .addAL => Sys2Proof.Machine.execAddAL s
  | .addAA => Sys2Proof.Machine.execAddAA s
  | .retNz => Sys2Proof.Machine.execRetNz s
  | .popBc => Sys2Proof.Machine.execPopBc s
  | .jpNz => Sys2Proof.Machine.execJpNz s
  | .jp => Sys2Proof.Machine.execJp s
  | .callNz => Sys2Proof.Machine.execCallNz s
  | .pushBc => Sys2Proof.Machine.execPushBc s
  | .retZ => Sys2Proof.Machine.execRetZ s
  | .ret => Sys2Proof.Machine.execRet s
  | .jpZ => Sys2Proof.Machine.execJpZ s
  | .callZ => Sys2Proof.Machine.execCallZ s
  | .call => Sys2Proof.Machine.execCall s
  | .retNc => Sys2Proof.Machine.execRetNc s
  | .popDe => Sys2Proof.Machine.execPopDe s
  | .jpNc => Sys2Proof.Machine.execJpNc s
  | .callNc => Sys2Proof.Machine.execCallNc s
  | .pushDe => Sys2Proof.Machine.execPushDe s
  | .retC => Sys2Proof.Machine.execRetC s
  | .jpC => Sys2Proof.Machine.execJpC s
  | .callC => Sys2Proof.Machine.execCallC s
  | .ldhIndA8A => Sys2Proof.Machine.execLdhIndA8A s
  | .popHl => Sys2Proof.Machine.execPopHl s
  | .ldIndCA => Sys2Proof.Machine.execLdIndCA s
  | .pushHl => Sys2Proof.Machine.execPushHl s
  | .ldIndA16A => Sys2Proof.Machine.execLdIndA16A s
  | .ldhAIndA8 => Sys2Proof.Machine.execLdhAIndA8 s
  | .popAf => Sys2Proof.Machine.execPopAf s
  | .ldAIndC => Sys2Proof.Machine.execLdAIndC s
  | .pushAf => Sys2Proof.Machine.execPushAf s
  | .ldAIndA16 => Sys2Proof.Machine.execLdAIndA16 s
  | .decodeMiss byte => Sys2Proof.Machine.execDecodeMiss byte s
  | .prefixedDecodeMiss byte => Sys2Proof.Machine.execPrefixedDecodeMiss byte s

end Sys2Proof.Machine
end

