-- ==== Sys2Proof/Machine/Step.lean ====
section
/-!
DEFINITION. 40_engine.md R118: the complete step.
-/

namespace Sys2Proof.Machine

/-- `step()` (R118). A recorded condition leaves no step (R38, R233): the outcome is that condition. HALTED changes
nothing (R112). Otherwise fetch, decode and execute; a missed byte's row raises UnknownOpcode (R114). -/
def step (s : State) : Host.Outcome State Fault Refusal :=
  match s.fault with
  | some condition => .fault condition
  | none =>
    if s.halted then .next s
    else exec (rowOf (fetch s).1 (fetch s).2) s

/-- `s` with an instruction's bytes (numbered as the opcode table numbers them, zero above `nbits`) stored at pc, where
the next step fetches, RUNNING and with no condition recorded, so that the next step does fetch (log entry 5). -/
def State.withFetchWord (s : State) (nbits w : Nat) : State := loadAtPc s (tableBytes nbits w)

end Sys2Proof.Machine
end

