-- ==== Sys2Proof/Safety.lean ====
section
/-!
DEFINITION. What counts as a safe run (60_exceptions.md R233, R245), and what each descriptor may write, in the terms
the statements use (10_state.md R36; 20_memory.md R64; each instruction's own rule).
-/

namespace Sys2Proof.Machine

/-- The states a step runs an instruction from: RUNNING, with no condition recorded (R38, R111). -/
def State.running (s : State) : Bool := s.fault.isNone && !s.halted

/-- No fatal condition is recorded: a recorded one is terminal and not successful (R233). -/
def State.safe (s : State) : Bool := s.fault.isNone

/-- A run of `k` steps from `s` that ends in `t` with no fatal condition (R245). -/
def SafeRun (k : Nat) (s t : State) : Prop :=
  Sys2Proof.core.run k s = .next t ∧ t.safe = true

/-- Does the instruction transfer control in this state (R191 to R193)? -/
def transfersControl (s : State) : Descriptor → Bool
  | .jp test | .call test | .ret test => testHolds s.f test
  | _ => false

/-- The addresses a descriptor stores to in a state (R64). -/
def storedAddresses (s : State) : Descriptor → List Word
  | .ldByte .memHl _ | .incMem | .decMem => [readPair s .hl]
  | .push _ => [s.sp - 1, s.sp - 2]
  | .call test => if testHolds s.f test then [s.sp - 1, s.sp - 2] else []
  | _ => []

/-- The 8-bit registers a pair is made of (R26). -/
def Pair.registers : Pair → List Reg8
  | .bc => [.b, .c]
  | .de => [.d, .e]
  | .hl => [.h, .l]
  | .af => [.a]

/-- The 8-bit registers that `rr` is made of (R26, R30). -/
def PairOrSp.registers : PairOrSp → List Reg8
  | .bc => [.b, .c]
  | .de => [.d, .e]
  | .hl => [.h, .l]
  | .sp => []

/-- The 8-bit registers a descriptor writes (R36, with R138 and R139 for INC rr and DEC rr: log entry 21). -/
def writtenRegisters : Descriptor → List Reg8
  | .add _ => [.a]
  | .addHl _ => [.h, .l]
  | .inc r | .dec r | .ldByte (.reg r) _ => [r]
  | .incRr rr | .decRr rr => PairOrSp.registers rr
  | .pop qq => Pair.registers qq
  | _ => []

/-- The descriptors that write Z, N and H (R36). -/
def writesZnh : Descriptor → Bool
  | .add _ | .addHl _ | .inc _ | .dec _ | .incMem | .decMem | .pop .af => true
  | _ => false

/-- The descriptors that write C (R36): DEC keeps it. -/
def writesCarry : Descriptor → Bool
  | .add _ | .addHl _ | .inc _ | .incMem | .pop .af => true
  | _ => false

/-- The descriptors that write `sp`, in a state (R36). -/
def writesSp (s : State) : Descriptor → Bool
  | .incRr .sp | .decRr .sp | .push _ | .pop _ => true
  | .call test | .ret test => testHolds s.f test
  | _ => false

end Sys2Proof.Machine
end

