-- ==== Sys2Proof/Certificates/Slice0/Obligations.lean ====
section
/-!
DEFINITION. The statements for the provers, from the numbered rules of spec/. `i.row = .descriptor d` reads "i is the
instruction whose descriptor is d" (30_encoding.md R90); every equation `exec i s = .next t` says that the instruction
completes, what it writes, and that it leaves everything else as it was.
-/

open Sys2Proof Sys2Proof.Machine

/-! ### Arithmetic (41_alu.md) -/

/-- R134: ADD A,r. -/
def Obligations.AddAccumulatorWritesSumAndFlags : Prop :=
  ∀ (i : Instr) (r : Reg8) (s : State), i.row = .descriptor (.add r) →
    exec i s = .next { s with
      a := s.a + readReg s r
      f := { z := s.a + readReg s r == 0
             n := false
             h := decide ((s.a &&& 0x0F).toNat + (readReg s r &&& 0x0F).toNat > 0x0F)
             c := decide (s.a.toNat + (readReg s r).toNat > 0xFF) }
      pc := s.pc + 1 }

/-- R135: ADD HL,rr, with the half-carry out of bit 7 and one skip byte. -/
def Obligations.AddHlWritesSumAndFlags : Prop :=
  ∀ (i : Instr) (rr : PairOrSp) (s : State), i.row = .descriptor (.addHl rr) →
    exec i s = .next { s with
      h := hi8 (join s.h s.l + readRr s rr)
      l := lo8 (join s.h s.l + readRr s rr)
      f := { z := join s.h s.l + readRr s rr == 0
             n := false
             h := decide ((join s.h s.l &&& 0x00FF).toNat + (readRr s rr &&& 0x00FF).toNat > 0xFF)
             c := decide ((join s.h s.l).toNat + (readRr s rr).toNat > 0xFFFF) }
      pc := s.pc + 2 }

/-- R136 with R132: INC r writes all four flags, C among them. -/
def Obligations.IncRegisterWritesValueAndFlags : Prop :=
  ∀ (i : Instr) (r : Reg8) (s : State), i.row = .descriptor (.inc r) →
    exec i s = .next { writeReg s r (readReg s r + 1) with
      f := { z := readReg s r + 1 == 0
             n := false
             h := decide ((readReg s r &&& 0x0F).toNat + 1 > 0x0F)
             c := decide ((readReg s r).toNat + 1 > 0xFF) }
      pc := s.pc + 1 }

/-- R137 with R133: DEC r keeps C. -/
def Obligations.DecRegisterWritesValueAndKeepsCarry : Prop :=
  ∀ (i : Instr) (r : Reg8) (s : State), i.row = .descriptor (.dec r) →
    exec i s = .next { writeReg s r (readReg s r - 1) with
      f := { z := readReg s r - 1 == 0
             n := true
             h := readReg s r &&& 0x0F == 0
             c := s.f.c }
      pc := s.pc + 1 }

/-- R138: INC rr for BC, DE and SP writes no flag; pc passes one skip byte. -/
def Obligations.IncPairWritesNoFlag : Prop :=
  ∀ (i : Instr) (rr : PairOrSp) (s : State), i.row = .descriptor (.incRr rr) →
    exec i s = .next { writeRr s rr (readRr s rr + 1) with pc := s.pc + 2 }

/-- R139: DEC rr for BC, DE and SP writes no flag; pc passes one skip byte. -/
def Obligations.DecPairWritesNoFlag : Prop :=
  ∀ (i : Instr) (rr : PairOrSp) (s : State), i.row = .descriptor (.decRr rr) →
    exec i s = .next { writeRr s rr (readRr s rr - 1) with pc := s.pc + 2 }

/-- R140: INC (HL). -/
def Obligations.IncMemoryWritesByteAndFlags : Prop :=
  ∀ (s : State) (v : Byte), v = memRead s (join s.h s.l) →
    exec .incIndHl s = .next { memWrite s (join s.h s.l) (v + 1) with
      f := { z := v + 1 == 0
             n := false
             h := decide ((v &&& 0x0F).toNat + 1 > 0x0F)
             c := decide (v.toNat + 1 > 0xFF) }
      pc := s.pc + 3 }

/-- R141: DEC (HL). -/
def Obligations.DecMemoryWritesByteAndKeepsCarry : Prop :=
  ∀ (s : State) (v : Byte), v = memRead s (join s.h s.l) →
    exec .decIndHl s = .next { memWrite s (join s.h s.l) (v - 1) with
      f := { z := v - 1 == 0
             n := true
             h := v &&& 0x0F == 0
             c := s.f.c }
      pc := s.pc + 3 }

/-- The sum an addition leaves and the carry it sets are the exact sum of its operands (R130, R131). -/
def Obligations.AdditionCarryCompletesTheSum : Prop :=
  (∀ (i : Instr) (r : Reg8) (s t : State), i.row = .descriptor (.add r) → exec i s = .next t →
    t.a.toNat + (if t.f.c then 0x100 else 0) = s.a.toNat + (readReg s r).toNat) ∧
  (∀ (i : Instr) (rr : PairOrSp) (s t : State), i.row = .descriptor (.addHl rr) → exec i s = .next t →
    (join t.h t.l).toNat + (if t.f.c then 0x10000 else 0) = (join s.h s.l).toNat + (readRr s rr).toNat)

/-! ### Loads (42_load.md) -/

/-- R172: LD r,r'. -/
def Obligations.LoadRegisterFromRegister : Prop :=
  ∀ (i : Instr) (r r' : Reg8) (s : State), i.row = .descriptor (.ldByte (.reg r) (.reg r')) →
    exec i s = .next { writeReg s r (readReg s r') with pc := s.pc + 1 }

/-- R173: LD r,(HL). -/
def Obligations.LoadRegisterFromMemory : Prop :=
  ∀ (i : Instr) (r : Reg8) (s : State), i.row = .descriptor (.ldByte (.reg r) .memHl) →
    exec i s = .next { writeReg s r (memRead s (join s.h s.l)) with pc := s.pc + 1 }

/-- R174: LD (HL),r. -/
def Obligations.StoreRegisterToMemory : Prop :=
  ∀ (i : Instr) (r : Reg8) (s : State), i.row = .descriptor (.ldByte .memHl (.reg r)) →
    exec i s = .next { memWrite s (join s.h s.l) (readReg s r) with pc := s.pc + 1 }

/-- R175: LD r,d8 (at pc 0xFFFF the address pc + 1 is 0x0000, the spec's decision D6: log entry 9). -/
def Obligations.LoadRegisterImmediate : Prop :=
  ∀ (i : Instr) (r : Reg8) (s : State), i.row = .descriptor (.ldByte (.reg r) .imm) →
    exec i s = .next { writeReg s r (memRead s (s.pc + 1)) with pc := s.pc + 2 }

/-- R176: LD (HL),d8 (at pc 0xFFFF the address pc + 1 is 0x0000, the spec's decision D6: log entry 9). -/
def Obligations.StoreImmediateToMemory : Prop :=
  ∀ (s : State), exec .ldIndHlD8 s = .next { memWrite s (join s.h s.l) (memRead s (s.pc + 1)) with pc := s.pc + 2 }

/-- R177 to R180: the decoded but unimplemented loads raise UnimplementedInstruction with their descriptor and write
nothing else. That nothing is written is the spec's own decision D8 (log entry 11), and the condition is recorded in the
next state (log entry 1). -/
def Obligations.UnimplementedLoadsRaise : Prop :=
  (∀ (i : Instr) (rr : PairOrSp) (s : State), i.row = .descriptor (.ldWord rr) →
    exec i s = .next { s with fault := some (.unimplementedInstruction (.ldWord rr)) }) ∧
  (∀ (i : Instr) (x : Indirect) (s : State), i.row = .descriptor (.ldIndirectFromA x) →
    exec i s = .next { s with fault := some (.unimplementedInstruction (.ldIndirectFromA x)) }) ∧
  (∀ (i : Instr) (x : Indirect) (s : State), i.row = .descriptor (.ldAFromIndirect x) →
    exec i s = .next { s with fault := some (.unimplementedInstruction (.ldAFromIndirect x)) }) ∧
  (∀ (s : State), exec .ldIndA16Sp s = .next { s with fault := some (.unimplementedInstruction .ldIndirectFromSp) })

/-! ### Control transfer (43_control.md) -/

/-- R190: the five tests, and N and H are never tested. -/
def Obligations.TestsReadZeroAndCarry : Prop :=
  ∀ (f : Flags),
    testHolds f .always = true ∧
    (testHolds f .zero = true ↔ f.z = true) ∧
    (testHolds f .notZero = true ↔ f.z = false) ∧
    (testHolds f .carry = true ↔ f.c = true) ∧
    (testHolds f .notCarry = true ↔ f.c = false) ∧
    ∀ (test : Test) (n h : Bool), testHolds { f with n := n, h := h } test = testHolds f test

/-- R191: JP, taken and not taken (operand addresses wrap, the spec's decision D6: log entry 9). -/
def Obligations.JumpTakenAndNotTaken : Prop :=
  ∀ (i : Instr) (test : Test) (s : State), i.row = .descriptor (.jp test) →
    (testHolds s.f test = true →
      exec i s = .next { s with pc := join (memRead s (s.pc + 2)) (memRead s (s.pc + 1)) }) ∧
    (testHolds s.f test = false → exec i s = .next { s with pc := s.pc + 3 })

/-- R192: CALL, taken and not taken. That the push comes before the target's read is the spec's decision D7 (log entry
10); operand addresses wrap (D6, log entry 9). -/
def Obligations.CallTakenAndNotTaken : Prop :=
  ∀ (i : Instr) (test : Test) (s p : State), i.row = .descriptor (.call test) →
    p = { memWrite (memWrite s (s.sp - 1) (hi8 (s.pc + 3))) (s.sp - 2) (lo8 (s.pc + 3)) with sp := s.sp - 2 } →
    (testHolds s.f test = true →
      exec i s = .next { p with pc := join (memRead p (s.pc + 2)) (memRead p (s.pc + 1)) }) ∧
    (testHolds s.f test = false → exec i s = .next { s with pc := s.pc + 3 })

/-- R193: RET, taken and not taken. -/
def Obligations.ReturnTakenAndNotTaken : Prop :=
  ∀ (i : Instr) (test : Test) (s : State), i.row = .descriptor (.ret test) →
    (testHolds s.f test = true →
      exec i s = .next { s with
        sp := s.sp + 2
        pc := join (memRead s (s.sp + 1)) (memRead s s.sp) }) ∧
    (testHolds s.f test = false → exec i s = .next { s with pc := s.pc + 1 })

/-- R73: the target of a taken CALL, said of the state before it: an operand byte that the push overwrites is read as
the byte just pushed (the order is the spec's decision D7, log entry 10; the wrap is D6, log entry 9). -/
def Obligations.CallReadsTargetAfterPush : Prop :=
  ∀ (i : Instr) (test : Test) (s : State), i.row = .descriptor (.call test) → testHolds s.f test = true →
    ∃ t, exec i s = .next t ∧
      ∀ (seen : Word → Byte),
        (∀ a, seen a = if a = s.sp - 2 then lo8 (s.pc + 3) else if a = s.sp - 1 then hi8 (s.pc + 3) else memRead s a) →
        t.pc = join (seen (s.pc + 2)) (seen (s.pc + 1))

/-- R194: a taken CALL, then code that leaves sp and the two stack bytes as they were, then a taken RET, resumes at
the address after the CALL with sp restored. -/
def Obligations.CallThenReturnResumes : Prop :=
  ∀ (i j : Instr) (ti tj : Test) (s : State), i.row = .descriptor (.call ti) → j.row = .descriptor (.ret tj) →
    testHolds s.f ti = true →
    ∃ t, exec i s = .next t ∧
      ∀ (u : State), u.sp = t.sp → memRead u t.sp = memRead t t.sp → memRead u (t.sp + 1) = memRead t (t.sp + 1) →
        testHolds u.f tj = true →
        ∃ w, exec j u = .next w ∧ w.pc = s.pc + 3 ∧ w.sp = s.sp

/-! ### Stack (44_stack.md) -/

/-- R212 with R210: PUSH qq. -/
def Obligations.PushStoresPairBelowStackPointer : Prop :=
  ∀ (i : Instr) (qq : Pair) (s : State), i.row = .descriptor (.push qq) →
    exec i s = .next { memWrite (memWrite s (s.sp - 1) (hi8 (readPair s qq))) (s.sp - 2) (lo8 (readPair s qq)) with
      sp := s.sp - 2
      pc := s.pc + 1 }

/-- R213 with R211: POP qq; POP AF writes the four flags from bits 7 to 4 of the low byte. -/
def Obligations.PopLoadsPairFromStack : Prop :=
  ∀ (i : Instr) (qq : Pair) (s : State) (lo hi : Byte), i.row = .descriptor (.pop qq) →
    lo = memRead s s.sp → hi = memRead s (s.sp + 1) →
    exec i s = .next (match qq with
      | .bc => { s with b := hi, c := lo, sp := s.sp + 2, pc := s.pc + 1 }
      | .de => { s with d := hi, e := lo, sp := s.sp + 2, pc := s.pc + 1 }
      | .hl => { s with h := hi, l := lo, sp := s.sp + 2, pc := s.pc + 1 }
      | .af => { s with
          a := hi
          f := { z := lo.getLsbD 7, n := lo.getLsbD 6, h := lo.getLsbD 5, c := lo.getLsbD 4 }
          sp := s.sp + 2
          pc := s.pc + 1 })

/-- R214: push and pop are inverses for every value and every sp; PUSH qq then POP qq leaves every register, A and the
flags among them, and sp as they were. -/
def Obligations.PushThenPopRestores : Prop :=
  (∀ (s : State) (v : Word), (pop16 (push16 s v)).1 = v ∧ (pop16 (push16 s v)).2.sp = s.sp) ∧
  (∀ (i j : Instr) (qq : Pair) (s : State), i.row = .descriptor (.push qq) → j.row = .descriptor (.pop qq) →
    ∃ t u, exec i s = .next t ∧ exec j t = .next u ∧
      { u with pc := s.pc, mem := s.mem, vram := s.vram } = s)

/-- R61: the stack is little-endian in memory, so a pushed word stands at the new sp as a little-endian word. -/
def Obligations.PushedWordStandsLittleEndian : Prop :=
  ∀ (s : State) (v : Word),
    memRead (push16 s v) (s.sp - 1) = hi8 v ∧
    memRead (push16 s v) (s.sp - 2) = lo8 v ∧
    (pop16 s).1 = join (memRead s (s.sp + 1)) (memRead s s.sp) ∧
    read16 (push16 s v) (push16 s v).sp = v

/-! ### NOP, rotates, the prefixed space (45_misc.md) -/

/-- R220: NOP. -/
def Obligations.NopOnlyAdvancesPc : Prop :=
  ∀ (s : State), exec .nop s = .next { s with pc := s.pc + 1 }

/-- R220's corner case: memory that holds only 0x00 bytes executes as NOPs for any number of steps. -/
def Obligations.ZeroMemoryRunsAsNops : Prop :=
  ∀ (k : Nat) (s : State), s.fault = none → s.halted = false → (∀ a, memRead s a = 0) →
    Sys2Proof.core.run k s = .next { s with pc := s.pc + BitVec.ofNat 16 k }

/-- R221 to R224: the four rotates raise UnimplementedInstruction and write nothing else (the spec's decisions D8 and D16:
log entries 1, 6 and 11). -/
def Obligations.RotatesRaiseUnimplemented : Prop :=
  ∀ (s : State),
    (exec .rlca s = .next { s with fault := some (.unimplementedInstruction .rlca) }) ∧
    (exec .rrca s = .next { s with fault := some (.unimplementedInstruction .rrca) }) ∧
    (exec .rla s = .next { s with fault := some (.unimplementedInstruction .rla) }) ∧
    (exec .rra s = .next { s with fault := some (.unimplementedInstruction .rra) })

/-- The two decode-miss rows, constructors by the model's choice (log entry 2), record UnknownOpcode and change nothing
else (log entry 1). -/
def Obligations.DecodeMissRowsRaiseUnknownOpcode : Prop :=
  ∀ (byte : Byte) (s : State),
    exec (.decodeMiss byte) s = .next { s with fault := some (.unknownOpcode byte false) } ∧
    exec (.prefixedDecodeMiss byte) s = .next { s with fault := some (.unknownOpcode byte true) }

/-! ### The step (40_engine.md) and fatal conditions (60_exceptions.md) -/

/-- When the bytes at pc decode to an instruction, a step of the running machine is that instruction's execution. -/
def Obligations.StepRunsTheInstructionAtPc : Prop :=
  ∀ (i : Instr) (rest : List Byte) (s : State), s.fault = none → s.halted = false →
    decodeBytes [memRead s s.pc, memRead s (s.pc + 1)] = .ok (i, rest) →
    i.wf = true ∧ step s = exec i s

/-- R118: the complete step, as its pseudocode. The condition a step raises is recorded in the next state; from a state
with a recorded condition no step exists, and `step` answers `fault` (log entry 1). -/
def Obligations.StepFollowsThePseudocode : Prop :=
  ∀ (s : State) (byte : Byte) (prefixed : Bool),
    (byte, prefixed) = (if memRead s s.pc = 0xCB then (memRead s (s.pc + 1), true) else (memRead s s.pc, false)) →
    (∀ condition, s.fault = some condition → step s = .fault condition) ∧
    (s.fault = none → s.halted = true → step s = .next s) ∧
    (s.fault = none → s.halted = false → decode byte prefixed = none →
      step s = .next { s with fault := some (.unknownOpcode byte prefixed) }) ∧
    (∀ i d, s.fault = none → s.halted = false → decode byte prefixed = some i → i.row = .descriptor d →
      d.unimplemented = true → step s = .next { s with fault := some (.unimplementedInstruction d) }) ∧
    (∀ i d, s.fault = none → s.halted = false → decode byte prefixed = some i → i.row = .descriptor d →
      d.unimplemented = false → ∃ t, exec i s = .next t ∧ step s = .next t ∧ t.fault = none)

/-- R112: in HALTED a step changes nothing, and so does every run. -/
def Obligations.HaltedStepChangesNothing : Prop :=
  ∀ (s : State), s.fault = none → s.halted = true →
    step s = .next s ∧ ∀ k, Sys2Proof.core.run k s = .next s

/-- R38: a step runs only from a state with no recorded condition, and a recorded condition ends every run. That the end
of the run is the outcome `fault` is the model's choice (log entry 1). -/
def Obligations.RecordedConditionEndsTheRun : Prop :=
  (∀ (s t : State), step s = .next t → s.fault = none) ∧
  (∀ (s : State) (condition : Fault) (k : Nat), s.fault = some condition →
    step s = .fault condition ∧ Sys2Proof.core.run (k + 1) s = .fault condition)

/-- R120: a step of the running machine ends in one of three ways; it never hangs and no access fails. A fatal
condition is recorded in the next state (log entry 1). -/
def Obligations.RunningStepEndsInOneOfThreeWays : Prop :=
  ∀ (s : State), s.fault = none → s.halted = false →
    ∃ t, step s = .next t ∧
      (t.fault = none ∨
        (∃ byte prefixed, t = { s with fault := some (.unknownOpcode byte prefixed) }) ∨
        (∃ d, d.unimplemented = true ∧ t = { s with fault := some (.unimplementedInstruction d) }))

/-- R233: the step that raises a fatal condition writes nothing but the fault component, and no step follows it: the
outcome is `fault` from then on (log entry 1). -/
def Obligations.FatalStepWritesOnlyTheCondition : Prop :=
  ∀ (s t : State) (condition : Fault), step s = .next t → t.fault = some condition →
    t = { s with fault := some condition } ∧ step t = .fault condition

/-- R114, R225, R230: a step on a byte with no mapping records that byte, and whether it followed 0xCB (the
decoded set is the spec's decision D2, log entry 6; the record, log entry 1). -/
def Obligations.UnmappedByteRaisesUnknownOpcode : Prop :=
  ∀ (s : State), s.fault = none → s.halted = false →
    (memRead s s.pc ∈ missBytes →
      step s = .next { s with fault := some (.unknownOpcode (memRead s s.pc) false) }) ∧
    (memRead s s.pc = 0xCB →
      step s = .next { s with fault := some (.unknownOpcode (memRead s (s.pc + 1)) true) })

/-- R33: construction leaves RUNNING; no instruction writes the halted flag, so no step sets or clears it; the step reads
it, executing the decoded instruction in RUNNING and changing nothing in HALTED. -/
def Obligations.NothingWritesTheHaltedFlag : Prop :=
  (∀ (p : ResetParams) (boot : Option (List Byte)) (cart : List Byte), (State.construct p boot cart).halted = false) ∧
  (∀ (i : Instr) (s t : State), exec i s = .next t → t.halted = s.halted) ∧
  (∀ (s t : State), step s = .next t → t.halted = s.halted) ∧
  (∀ (i : Instr) (s : State), s.fault = none → s.halted = false → decode (fetch s).1 (fetch s).2 = some i →
    step s = exec i s) ∧
  (∀ (s : State), s.fault = none → s.halted = true → step s = .next s)

/-- R121: code may execute from the VRAM window: the opcode fetched there is the device's byte. -/
def Obligations.CodeExecutesFromTheWindow : Prop :=
  ∀ (s : State) (byte : Byte), s.fault = none → s.halted = false →
    0x8000 ≤ s.pc.toNat → s.pc.toNat ≤ 0x9FFF → byte = s.vram.read (s.pc.toNat - 0x8000) → byte ≠ 0xCB →
    fetch s = (byte, false) ∧ step s = exec (rowOf byte false) s

/-! ### Registers and flags (10_state.md) -/

/-- R23, R24, R25: the flags byte, bit by bit, and its round trip. -/
def Obligations.FlagsByteLayoutAndRoundTrip : Prop :=
  (∀ (f : Flags),
    f.toByte = ((if f.z then 0x80 else 0) ||| (if f.n then 0x40 else 0) ||| (if f.h then 0x20 else 0) |||
      (if f.c then 0x10 else 0))) ∧
  (∀ (f : Flags), f.toByte &&& 0x0F = 0) ∧
  (∀ (v : Byte), Flags.fromByte v =
    { z := v.getLsbD 7, n := v.getLsbD 6, h := v.getLsbD 5, c := v.getLsbD 4 }) ∧
  (∀ (v : Byte), (Flags.fromByte v).toByte = v &&& 0xF0)

/-- R29: pair round trips; AF keeps 12 bits (the mask 0xFFF0 is the spec's resolution C1, log entry 16). -/
def Obligations.PairRoundTrip : Prop :=
  ∀ (s : State) (v : Word),
    readPair (writePair s .bc v) .bc = v ∧
    readPair (writePair s .de v) .de = v ∧
    readPair (writePair s .hl v) .hl = v ∧
    readPair (writePair s .af v) .af = v &&& 0xFFF0 ∧
    (writePair s .af v).a = hi8 v ∧
    (writePair s .af v).f.toByte = lo8 v &&& 0xF0

/-- Each instruction writes no 8-bit register but those its own rule names (R36, with R138 and R139; log entry 21);
a decode miss writes none. -/
def Obligations.OnlyNamedRegistersAreWritten : Prop :=
  (∀ (i : Instr) (d : Descriptor) (s t : State), i.row = .descriptor d → exec i s = .next t →
    ∀ r, r ∉ writtenRegisters d → readReg t r = readReg s r) ∧
  (∀ (i : Instr) (byte : Byte) (prefixed : Bool) (s t : State), i.row = .miss byte prefixed → exec i s = .next t →
    ∀ r, readReg t r = readReg s r)

/-- Each instruction writes no flag but those its own rule names (R36): C is kept by DEC, all four by every load,
jump, call, return, push, 16-bit INC and DEC, NOP and faulting row. -/
def Obligations.OnlyNamedFlagsAreWritten : Prop :=
  (∀ (i : Instr) (d : Descriptor) (s t : State), i.row = .descriptor d → exec i s = .next t →
    (writesZnh d = false → t.f.z = s.f.z ∧ t.f.n = s.f.n ∧ t.f.h = s.f.h) ∧
    (writesCarry d = false → t.f.c = s.f.c)) ∧
  (∀ (i : Instr) (byte : Byte) (prefixed : Bool) (s t : State), i.row = .miss byte prefixed → exec i s = .next t →
    t.f = s.f)

/-- `sp` is written by INC SP, DEC SP, PUSH, POP, a taken CALL and a taken RET, and by nothing else (R36). -/
def Obligations.OnlyStackInstructionsWriteSp : Prop :=
  (∀ (i : Instr) (d : Descriptor) (s t : State), i.row = .descriptor d → exec i s = .next t →
    writesSp s d = false → t.sp = s.sp) ∧
  (∀ (i : Instr) (byte : Byte) (prefixed : Bool) (s t : State), i.row = .miss byte prefixed → exec i s = .next t →
    t.sp = s.sp)

/-- R37: changing N and H changes nothing but N and H in what any instruction except PUSH AF leaves. -/
def Obligations.OnlyPushAfReadsSubtractAndHalfCarry : Prop :=
  ∀ (i : Instr) (s t : State) (n h : Bool), i.row ≠ .descriptor (.push .af) → exec i s = .next t →
    ∃ t', exec i { s with f := { s.f with n := n, h := h } } = .next t' ∧
      { t' with f := { t'.f with n := t.f.n, h := t.f.h } } = t

/-- The pc advance of every executed instruction that does not transfer control is its format's (R81), and the pc stays
where a condition is raised. -/
def Obligations.PcAdvancesByTheFormat : Prop :=
  (∀ (i : Instr) (d : Descriptor) (n : Nat) (s : State), i.row = .descriptor d → d.pcAdvance = some n →
    transfersControl s d = false → ∃ t, exec i s = .next t ∧ t.pc = s.pc + BitVec.ofNat 16 n ∧ t.fault = s.fault) ∧
  (∀ (i : Instr) (d : Descriptor) (s : State), i.row = .descriptor d → d.pcAdvance = none →
    ∃ t, exec i s = .next t ∧ t.pc = s.pc)

/-! ### Memory (20_memory.md) -/

/-- R53, R54: addresses in [0x8000, 0x9FFF] go to the device at offset address - 0x8000, every other to the local byte
array; a write reaches one of the two only. -/
def Obligations.BusSplitsAtTheWindow : Prop :=
  ∀ (s : State) (a : Word) (v : Byte),
    (0x8000 ≤ a.toNat ∧ a.toNat ≤ 0x9FFF →
      memRead s a = s.vram.read (a.toNat - 0x8000) ∧
      memWrite s a v = { s with vram := s.vram.write (a.toNat - 0x8000) v }) ∧
    (¬(0x8000 ≤ a.toNat ∧ a.toNat ≤ 0x9FFF) →
      memRead s a = s.mem.read a.toNat ∧ memWrite s a v = { s with mem := s.mem.write a.toNat v })

/-- R68: after any sequence of writes, a read gives the latest write to its location, or the value before if none (in the
window by the spec's decision D5, log entry 8). -/
def Obligations.ReadReturnsTheLatestWrite : Prop :=
  ∀ (s : State) (writes : List (Word × Byte)) (a : Word),
    memRead (writes.foldl (fun u w => memWrite u w.1 w.2) s) a =
      match writes.reverse.find? (fun w => w.1 == a) with
      | some w => w.2
      | none => memRead s a

/-- Every byte outside the addresses an instruction stores to (R64) reads as before; a form that stores nothing leaves
every byte. -/
def Obligations.OnlyStoredBytesChange : Prop :=
  (∀ (i : Instr) (d : Descriptor) (s t : State), i.row = .descriptor d → exec i s = .next t →
    ∀ a, a ∉ storedAddresses s d → memRead t a = memRead s a) ∧
  (∀ (i : Instr) (byte : Byte) (prefixed : Bool) (s t : State), i.row = .miss byte prefixed → exec i s = .next t →
    ∀ a, memRead t a = memRead s a)

/-- R72: a store by LD (HL),r to the next opcode's address is what the next step fetches. -/
def Obligations.StoreIsSeenByTheNextFetch : Prop :=
  ∀ (i : Instr) (r : Reg8) (s : State), i.row = .descriptor (.ldByte .memHl (.reg r)) →
    s.fault = none → s.halted = false → readPair s .hl = s.pc + 1 → readReg s r ≠ 0xCB →
    ∃ t, exec i s = .next t ∧ fetch t = (readReg s r, false) ∧ step t = exec (rowOf (readReg s r) false) t

/-- R84: a skip byte is never read. Where it is not the operand of INC (HL) or DEC (HL), its value changes nothing but
itself. -/
def Obligations.SkipBytesAreNeverRead : Prop :=
  ∀ (i : Instr) (d : Descriptor) (k : Word) (v : Byte) (s : State), i.row = .descriptor d →
    (k = 1 ∧ ((∃ rr, d = .addHl rr) ∨ (∃ rr, d = .incRr rr) ∨ (∃ rr, d = .decRr rr))) ∨
      ((k = 1 ∨ k = 2) ∧ (d = .incMem ∨ d = .decMem) ∧ readPair s .hl ≠ s.pc + k) →
    ∃ t t', exec i s = .next t ∧ exec i (memWrite s (s.pc + k) v) = .next t' ∧
      { t' with mem := t.mem, vram := t.vram } = t ∧
      ∀ a, memRead t' a = if a = s.pc + k then v else memRead t a

/-- Every step keeps both memories in canonical form: strictly rising keys inside the address space and the device, no
listed byte equal to what an unlisted one reads as, no local byte listed under the window (R51, R52, R56, R58). -/
def Obligations.StepKeepsMemoriesCanonical : Prop :=
  ∀ (s t : State), s.wf = true → step s = .next t → t.wf = true

/-- Along every run the memories stay canonical and the halted flag keeps its value, and a run that ends with no
recorded condition began with none. -/
def Obligations.RunsKeepTheInvariant : Prop :=
  ∀ (k : Nat) (s t : State), s.wf = true → Sys2Proof.core.run k s = .next t →
    t.wf = true ∧ t.halted = s.halted ∧ (SafeRun k s t → s.fault = none)

/-! ### Construction (10_state.md R39) -/

/-- R39: the state after construction, for every value of the parameters and whatever the two images hold. -/
def Obligations.ConstructionGivesTheParameters : Prop :=
  ∀ (p : ResetParams) (boot : Option (List Byte)) (cart : List Byte) (s : State), s = State.construct p boot cart →
    s.halted = false ∧ s.fault = none ∧ s.pc = p.resetPc ∧ s.sp = p.resetSp ∧
    s.a = p.regA ∧ s.b = p.regB ∧ s.c = p.regC ∧ s.d = p.regD ∧ s.e = p.regE ∧ s.h = p.regH ∧ s.l = p.regL ∧
    s.f = { z := p.flagZ, n := p.flagN, h := p.flagH, c := p.flagC } ∧
    s.mem = p.initMem ∧ s.vram = p.initVram

/-- The model's choice (log entries 3 and 4, DESIGN CHOICE): the reset state has every register zero and memories that
read zero, and it meets the invariant. -/
def Obligations.ResetIsTheZeroConstruction : Prop :=
  State.reset.wf = true ∧ State.reset.running = true ∧ State.reset.pc = 0 ∧ State.reset.sp = 0 ∧
  (∀ r, readReg State.reset r = 0) ∧ State.reset.f.toByte = 0 ∧ ∀ a, memRead State.reset a = 0

/-! ### Encoding (30_encoding.md) -/

/-- The opcode bytes of every well-formed instruction decode to it, whatever bytes follow (R80, R87). -/
def Obligations.DecodingAnEncodingGivesTheInstruction : Prop :=
  ∀ (i : Instr) (rest : List Byte), i.wf = true → decodeBytes (encode i ++ rest) = .ok (i, rest)

/-- What any byte string decodes to is well formed, and its encoding is the bytes it was read from. -/
def Obligations.EncodingADecodingGivesTheBytes : Prop :=
  ∀ (bytes rest : List Byte) (i : Instr), decodeBytes bytes = .ok (i, rest) → i.wf = true ∧ encode i ++ rest = bytes

/-- R88, R91: the prefixed table maps every byte to none; the unprefixed one maps R91's 104 bytes, and 0xCB, to none (the
spec's decision D2, log entry 6). -/
def Obligations.DecodeMissesAreExactlyTheListed : Prop :=
  missBytes.length = 104 ∧
  (∀ (byte : Byte), decode byte true = none) ∧
  (∀ (byte : Byte), decode byte false = none ↔ byte ∈ missBytes ∨ byte = 0xCB)

/-- R90: the decoded descriptors are exactly the listed variants, each from its own opcode byte and from no other byte.
The byte values and the decoded set are the spec's decisions D1 and D2 (log entry 6). -/
def Obligations.DecodedDescriptorsAreExactlyTheListed : Prop :=
  (∀ (d : Descriptor), d.wf = true ↔ ∃ (byte : Byte) (i : Instr), decode byte false = some i ∧ i.row = .descriptor d) ∧
  (∀ (i : Instr) (d : Descriptor), i.row = .descriptor d → decode d.opcode false = some i) ∧
  (∀ (byte : Byte) (i : Instr), decode byte false = some i → ∃ d, i.row = .descriptor d) ∧
  (∀ (byte : Byte) (i : Instr) (d : Descriptor), decode byte false = some i → i.row = .descriptor d → byte = d.opcode)

/-- The bit patterns of R90 with the field codes of R85 and R86, as each instruction rule's Encoding line has them,
decode to their instruction. The byte values are the spec's decision D1 (log entry 6). -/
def Obligations.OpcodePatternsDecode : Prop :=
  ∀ (i : Instr),
    (i.row = .descriptor .nop → decode 0x00 false = some i) ∧
    (∀ r, i.row = .descriptor (.add r) → decode (0x80 ||| r.code) false = some i) ∧
    (∀ rr, i.row = .descriptor (.addHl rr) → decode (0x09 ||| (rr.code <<< 4)) false = some i) ∧
    (∀ r, i.row = .descriptor (.inc r) → decode (0x04 ||| (r.code <<< 3)) false = some i) ∧
    (∀ r, i.row = .descriptor (.dec r) → decode (0x05 ||| (r.code <<< 3)) false = some i) ∧
    (∀ rr, i.row = .descriptor (.incRr rr) → decode (0x03 ||| (rr.code <<< 4)) false = some i) ∧
    (∀ rr, i.row = .descriptor (.decRr rr) → decode (0x0B ||| (rr.code <<< 4)) false = some i) ∧
    (i.row = .descriptor .incMem → decode 0x34 false = some i) ∧
    (i.row = .descriptor .decMem → decode 0x35 false = some i) ∧
    (∀ r r', i.row = .descriptor (.ldByte (.reg r) (.reg r')) →
      decode (0x40 ||| (r.code <<< 3) ||| r'.code) false = some i) ∧
    (∀ r, i.row = .descriptor (.ldByte (.reg r) .memHl) → decode (0x46 ||| (r.code <<< 3)) false = some i) ∧
    (∀ r, i.row = .descriptor (.ldByte .memHl (.reg r)) → decode (0x70 ||| r.code) false = some i) ∧
    (∀ r, i.row = .descriptor (.ldByte (.reg r) .imm) → decode (0x06 ||| (r.code <<< 3)) false = some i) ∧
    (i.row = .descriptor (.ldByte .memHl .imm) → decode 0x36 false = some i) ∧
    (∀ rr, i.row = .descriptor (.ldWord rr) → decode (0x01 ||| (rr.code <<< 4)) false = some i) ∧
    (∀ x, i.row = .descriptor (.ldIndirectFromA x) →
      decode (match x with
        | .bc => 0x02 | .de => 0x12 | .hlInc => 0x22 | .hlDec => 0x32
        | .highA8 => 0xE0 | .highC => 0xE2 | .a16 => 0xEA) false = some i) ∧
    (∀ x, i.row = .descriptor (.ldAFromIndirect x) →
      decode (match x with
        | .bc => 0x0A | .de => 0x1A | .hlInc => 0x2A | .hlDec => 0x3A
        | .highA8 => 0xF0 | .highC => 0xF2 | .a16 => 0xFA) false = some i) ∧
    (i.row = .descriptor .ldIndirectFromSp → decode 0x08 false = some i) ∧
    (∀ test, i.row = .descriptor (.jp test) →
      decode (match test with
        | .always => 0xC3 | .notZero => 0xC2 | .zero => 0xCA | .notCarry => 0xD2 | .carry => 0xDA) false = some i) ∧
    (∀ test, i.row = .descriptor (.call test) →
      decode (match test with
        | .always => 0xCD | .notZero => 0xC4 | .zero => 0xCC | .notCarry => 0xD4 | .carry => 0xDC) false = some i) ∧
    (∀ test, i.row = .descriptor (.ret test) →
      decode (match test with
        | .always => 0xC9 | .notZero => 0xC0 | .zero => 0xC8 | .notCarry => 0xD0 | .carry => 0xD8) false = some i) ∧
    (∀ qq, i.row = .descriptor (.push qq) → decode (0xC5 ||| (qq.code <<< 4)) false = some i) ∧
    (∀ qq, i.row = .descriptor (.pop qq) → decode (0xC1 ||| (qq.code <<< 4)) false = some i) ∧
    (i.row = .descriptor .rlca → decode 0x07 false = some i) ∧
    (i.row = .descriptor .rrca → decode 0x0F false = some i) ∧
    (i.row = .descriptor .rla → decode 0x17 false = some i) ∧
    (i.row = .descriptor .rra → decode 0x1F false = some i)

/-- Words written out from the table's encodings, one for each family (R85, R86, R89). -/
def Obligations.WrittenOutWordsDecode : Prop :=
  decodeTableWord 8 0b00000000 = some .nop ∧
  decodeTableWord 8 0b10000001 = some .addAC ∧
  decodeTableWord 8 0b00111001 = some .addHlSp ∧
  decodeTableWord 8 0b00101100 = some .incL ∧
  decodeTableWord 8 0b00010101 = some .decD ∧
  decodeTableWord 8 0b00010011 = some .incDe ∧
  decodeTableWord 8 0b01111000 = some .ldAB ∧
  decodeTableWord 8 0b01110111 = some .ldIndHlA ∧
  decodeTableWord 8 0b00011110 = some .ldED8 ∧
  decodeTableWord 8 0b11010010 = some .jpNc ∧
  decodeTableWord 8 0b11001100 = some .callZ ∧
  decodeTableWord 8 0b11001001 = some .ret ∧
  decodeTableWord 8 0b11110101 = some .pushAf ∧
  decodeTableWord 8 0b11100001 = some .popHl ∧
  decodeTableWord 8 0b00011111 = some .rra ∧
  decodeTableWord 8 0b01110110 = some (.decodeMiss 0x76) ∧
  decodeTableWord 16 0b1100101100110111 = some (.prefixedDecodeMiss 0x37)
end

