-- ==== Sys2Proof/Laws/Bits.lean ====
section
/-!
SUPPORT. `hi8`, `lo8` and `join` are inverse to each other.
-/

namespace Sys2Proof.Laws
open Sys2Proof.Machine

@[simp] theorem join_hi8_lo8 (v : Word) : join (hi8 v) (lo8 v) = v := by
  ext i hi
  simp only [join, hi8, lo8, BitVec.getElem_or, BitVec.getElem_shiftLeft, BitVec.getElem_setWidth,
    BitVec.getLsbD_setWidth, BitVec.getLsbD_ushiftRight]
  by_cases h : i < 8 <;> simp [h] <;> grind

@[simp] theorem hi8_join (hi lo : Byte) : hi8 (join hi lo) = hi := by
  ext i h
  simp [join, hi8, show 8 + i < 16 by omega, show i < 16 by omega, BitVec.getLsbD_eq_getElem h]

@[simp] theorem lo8_join (hi lo : Byte) : lo8 (join hi lo) = lo := by
  ext i h
  simp [join, lo8]

end Sys2Proof.Laws
end

