-- ==== Sys2Proof/Laws/Memory.lean ====
section
/-!
SUPPORT. Memory cells: a read after a write, and the canonical form is kept.
-/

namespace Sys2Proof.Laws
open Sys2Proof.Machine

theorem Memory.read_insert (m : Memory) (a b : Nat) (v : Byte) :
    (Memory.insert m a v).read b = if b = a then v else m.read b := by
  induction m with
  | nil => simp [Memory.insert, Memory.read, eq_comm]
  | cons cell m ih =>
    obtain ⟨k, w⟩ := cell
    simp only [Memory.insert]
    split
    · simp [Memory.read, eq_comm]
    · split
      · subst_vars; by_cases h : b = k <;> simp [Memory.read, h, eq_comm]
      · rename_i h1 h2
        simp only [Memory.read, ih]
        by_cases h : k = b
        · subst h; simp [Ne.symm h2]
        · simp [h]

theorem Memory.read_erase (m : Memory) (a b : Nat) :
    (Memory.erase m a).read b = if b = a then Config.unlistedByte else m.read b := by
  induction m with
  | nil => simp [Memory.erase, Memory.read]
  | cons cell m ih =>
    obtain ⟨k, w⟩ := cell
    simp only [Memory.erase] at ih ⊢
    by_cases hk : k = a
    · subst hk; by_cases h : b = k <;> simp_all [Memory.read, eq_comm]
    · by_cases h : k = b
      · subst h; simp [Memory.read, hk]
      · simp [Memory.read, hk, h, ih]

/-- A read after a write, of the same byte or of another. -/
theorem Memory.read_write (m : Memory) (a b : Nat) (v : Byte) :
    (m.write a v).read b = if b = a then v else m.read b := by
  unfold Memory.write
  split
  · rename_i h; subst h; exact Memory.read_erase m a b
  · exact Memory.read_insert m a b v

/-! ### The canonical form -/

theorem Memory.all_insert {p : Host.Cell → Bool} {m : Memory} {a : Nat} {v : Byte}
    (hm : m.all p = true) (ha : p (a, v) = true) : (Memory.insert m a v).all p = true := by
  induction m with
  | nil => simp [Memory.insert, ha]
  | cons cell m ih =>
    obtain ⟨k, w⟩ := cell
    simp only [List.all_cons, Bool.and_eq_true] at hm
    simp only [Memory.insert]
    split
    · simp [ha, hm.1, hm.2]
    · split
      · simp [ha, hm.2]
      · simp [hm.1, ih hm.2]

theorem Memory.all_erase {p : Host.Cell → Bool} {m : Memory} {a : Nat}
    (hm : m.all p = true) : (Memory.erase m a).all p = true := by
  simp only [List.all_eq_true, Memory.erase, List.mem_filter] at hm ⊢
  exact fun x hx => hm x hx.1

/-- What holds of every cell, and of the written one, holds of every cell after a write. -/
theorem Memory.all_write {p : Host.Cell → Bool} {m : Memory} {a : Nat} {v : Byte}
    (hm : m.all p = true) (ha : p (a, v) = true) : (m.write a v).all p = true := by
  unfold Memory.write
  split
  · exact Memory.all_erase hm
  · exact Memory.all_insert hm ha

theorem Memory.wf_erase {m : Memory} {a : Nat} (hm : m.wf = true) : (Memory.erase m a).wf = true := by
  induction m with
  | nil => rfl
  | cons cell m ih =>
    obtain ⟨k, w⟩ := cell
    simp only [Memory.wf, Bool.and_eq_true] at hm
    obtain ⟨⟨hw, hall⟩, htail⟩ := hm
    have ih := ih htail
    simp only [Memory.erase, List.filter_cons] at ih ⊢
    split
    · simp only [Memory.wf, hw, Bool.true_and, Bool.and_eq_true]
      exact ⟨Memory.all_erase hall, ih⟩
    · exact ih

theorem Memory.wf_insert {m : Memory} {a : Nat} {v : Byte} (hm : m.wf = true) (hv : v ≠ Config.unlistedByte) :
    (Memory.insert m a v).wf = true := by
  induction m with
  | nil => simp [Memory.insert, Memory.wf, hv]
  | cons cell m ih =>
    obtain ⟨k, w⟩ := cell
    have hm' := hm
    simp only [Memory.wf, Bool.and_eq_true] at hm'
    obtain ⟨⟨hw, hall⟩, htail⟩ := hm'
    simp only [Memory.insert]
    split
    · rename_i hak
      simp only [Memory.wf, List.all_cons, Bool.and_eq_true, bne_iff_ne, decide_eq_true_eq]
      refine ⟨⟨hv, hak, ?_⟩, ⟨by simpa using hw, hall⟩, htail⟩
      simp only [List.all_eq_true, decide_eq_true_eq] at hall ⊢
      exact fun x hx => Nat.lt_trans hak (hall x hx)
    · split
      · rename_i hak; subst hak
        simp [Memory.wf, hv, htail, -List.all_eq_true, hall]
      · rename_i h1 h2
        simp only [Memory.wf, hw, Bool.true_and, Bool.and_eq_true]
        refine ⟨Memory.all_insert hall ?_, ih htail⟩
        simp; omega

/-- A write keeps the canonical form. -/
theorem Memory.wf_write {m : Memory} {a : Nat} {v : Byte} (hm : m.wf = true) : (m.write a v).wf = true := by
  unfold Memory.write
  split
  · exact Memory.wf_erase hm
  · exact Memory.wf_insert hm ‹_›

end Sys2Proof.Laws
end

