-- ==== Sys2Proof/Laws/State.lean ====
section
/-!
SUPPORT. What each update of the state leaves as it was, field by field, and what it writes.
-/

namespace Sys2Proof.Laws
open Sys2Proof.Machine

/-! ### `writeReg`: a register apart, nothing changes -/

@[simp] theorem writeReg_f (s : State) (r : Reg8) (v : Byte) : (writeReg s r v).f = s.f := by cases r <;> rfl
@[simp] theorem writeReg_sp (s : State) (r : Reg8) (v : Byte) : (writeReg s r v).sp = s.sp := by cases r <;> rfl
@[simp] theorem writeReg_pc (s : State) (r : Reg8) (v : Byte) : (writeReg s r v).pc = s.pc := by cases r <;> rfl
@[simp] theorem writeReg_halted (s : State) (r : Reg8) (v : Byte) : (writeReg s r v).halted = s.halted := by cases r <;> rfl
@[simp] theorem writeReg_mem (s : State) (r : Reg8) (v : Byte) : (writeReg s r v).mem = s.mem := by cases r <;> rfl
@[simp] theorem writeReg_vram (s : State) (r : Reg8) (v : Byte) : (writeReg s r v).vram = s.vram := by cases r <;> rfl
@[simp] theorem writeReg_fault (s : State) (r : Reg8) (v : Byte) : (writeReg s r v).fault = s.fault := by cases r <;> rfl

/-- A register reads what was written to it, and every other register what it held. -/
@[simp] theorem readReg_writeReg (s : State) (r q : Reg8) (v : Byte) :
    readReg (writeReg s r v) q = if q = r then v else readReg s q := by
  cases r <;> cases q <;> rfl

/-! ### `memWrite`: memory apart, nothing changes -/

@[simp] theorem memWrite_a (s : State) (a : Word) (v : Byte) : (memWrite s a v).a = s.a := by unfold memWrite; split <;> rfl
@[simp] theorem memWrite_b (s : State) (a : Word) (v : Byte) : (memWrite s a v).b = s.b := by unfold memWrite; split <;> rfl
@[simp] theorem memWrite_c (s : State) (a : Word) (v : Byte) : (memWrite s a v).c = s.c := by unfold memWrite; split <;> rfl
@[simp] theorem memWrite_d (s : State) (a : Word) (v : Byte) : (memWrite s a v).d = s.d := by unfold memWrite; split <;> rfl
@[simp] theorem memWrite_e (s : State) (a : Word) (v : Byte) : (memWrite s a v).e = s.e := by unfold memWrite; split <;> rfl
@[simp] theorem memWrite_h (s : State) (a : Word) (v : Byte) : (memWrite s a v).h = s.h := by unfold memWrite; split <;> rfl
@[simp] theorem memWrite_l (s : State) (a : Word) (v : Byte) : (memWrite s a v).l = s.l := by unfold memWrite; split <;> rfl
@[simp] theorem memWrite_f (s : State) (a : Word) (v : Byte) : (memWrite s a v).f = s.f := by unfold memWrite; split <;> rfl
@[simp] theorem memWrite_sp (s : State) (a : Word) (v : Byte) : (memWrite s a v).sp = s.sp := by unfold memWrite; split <;> rfl
@[simp] theorem memWrite_pc (s : State) (a : Word) (v : Byte) : (memWrite s a v).pc = s.pc := by unfold memWrite; split <;> rfl
@[simp] theorem memWrite_halted (s : State) (a : Word) (v : Byte) : (memWrite s a v).halted = s.halted := by unfold memWrite; split <;> rfl
@[simp] theorem memWrite_fault (s : State) (a : Word) (v : Byte) : (memWrite s a v).fault = s.fault := by unfold memWrite; split <;> rfl

/-! ### `push16`: `sp` falls by two and, memory apart, nothing else changes -/

@[simp] theorem push16_a (s : State) (v : Word) : (push16 s v).a = s.a := by simp [push16]
@[simp] theorem push16_b (s : State) (v : Word) : (push16 s v).b = s.b := by simp [push16]
@[simp] theorem push16_c (s : State) (v : Word) : (push16 s v).c = s.c := by simp [push16]
@[simp] theorem push16_d (s : State) (v : Word) : (push16 s v).d = s.d := by simp [push16]
@[simp] theorem push16_e (s : State) (v : Word) : (push16 s v).e = s.e := by simp [push16]
@[simp] theorem push16_h (s : State) (v : Word) : (push16 s v).h = s.h := by simp [push16]
@[simp] theorem push16_l (s : State) (v : Word) : (push16 s v).l = s.l := by simp [push16]
@[simp] theorem push16_f (s : State) (v : Word) : (push16 s v).f = s.f := by simp [push16]
@[simp] theorem push16_pc (s : State) (v : Word) : (push16 s v).pc = s.pc := by simp [push16]
@[simp] theorem push16_halted (s : State) (v : Word) : (push16 s v).halted = s.halted := by simp [push16]
@[simp] theorem push16_fault (s : State) (v : Word) : (push16 s v).fault = s.fault := by simp [push16]
@[simp] theorem push16_sp (s : State) (v : Word) : (push16 s v).sp = s.sp - 2 := by
  simp only [push16, memWrite_sp]; rw [BitVec.sub_sub]; rfl

/-! ### `pop16`: `sp` rises by two and nothing else changes -/

theorem pop16_state (s : State) : (pop16 s).2 = { s with sp := s.sp + 2 } := by
  simp only [pop16]; rw [BitVec.add_assoc]; rfl

/-! ### `writePair` and `writeRr` -/

@[simp] theorem writePair_sp (s : State) (p : Pair) (v : Word) : (writePair s p v).sp = s.sp := by cases p <;> rfl
@[simp] theorem writePair_pc (s : State) (p : Pair) (v : Word) : (writePair s p v).pc = s.pc := by cases p <;> rfl
@[simp] theorem writePair_halted (s : State) (p : Pair) (v : Word) : (writePair s p v).halted = s.halted := by cases p <;> rfl
@[simp] theorem writePair_mem (s : State) (p : Pair) (v : Word) : (writePair s p v).mem = s.mem := by cases p <;> rfl
@[simp] theorem writePair_vram (s : State) (p : Pair) (v : Word) : (writePair s p v).vram = s.vram := by cases p <;> rfl
@[simp] theorem writePair_fault (s : State) (p : Pair) (v : Word) : (writePair s p v).fault = s.fault := by cases p <;> rfl
@[simp] theorem writeRr_f (s : State) (rr : PairOrSp) (v : Word) : (writeRr s rr v).f = s.f := by cases rr <;> rfl
@[simp] theorem writeRr_pc (s : State) (rr : PairOrSp) (v : Word) : (writeRr s rr v).pc = s.pc := by cases rr <;> rfl
@[simp] theorem writeRr_halted (s : State) (rr : PairOrSp) (v : Word) : (writeRr s rr v).halted = s.halted := by cases rr <;> rfl
@[simp] theorem writeRr_mem (s : State) (rr : PairOrSp) (v : Word) : (writeRr s rr v).mem = s.mem := by cases rr <;> rfl
@[simp] theorem writeRr_vram (s : State) (rr : PairOrSp) (v : Word) : (writeRr s rr v).vram = s.vram := by cases rr <;> rfl
@[simp] theorem writeRr_fault (s : State) (rr : PairOrSp) (v : Word) : (writeRr s rr v).fault = s.fault := by cases rr <;> rfl

/-! ### `writeTarget` -/

@[simp] theorem writeTarget_f (s : State) (target : Target) (v : Byte) : (writeTarget s target v).f = s.f := by cases target <;> simp [writeTarget]
@[simp] theorem writeTarget_sp (s : State) (target : Target) (v : Byte) : (writeTarget s target v).sp = s.sp := by cases target <;> simp [writeTarget]
@[simp] theorem writeTarget_pc (s : State) (target : Target) (v : Byte) : (writeTarget s target v).pc = s.pc := by cases target <;> simp [writeTarget]
@[simp] theorem writeTarget_halted (s : State) (target : Target) (v : Byte) : (writeTarget s target v).halted = s.halted := by cases target <;> simp [writeTarget]
@[simp] theorem writeTarget_fault (s : State) (target : Target) (v : Byte) : (writeTarget s target v).fault = s.fault := by cases target <;> simp [writeTarget]

/-! ### `commit` and `raiseFatal` -/

@[simp] theorem commit_next (s t : State) (nextPc : Word) : commit s nextPc = .next t ↔ { s with pc := nextPc } = t := by
  simp [commit]

@[simp] theorem raiseFatal_next (s t : State) (condition : Fault) :
    raiseFatal s condition = .next t ↔ { s with fault := some condition } = t := by
  simp [raiseFatal]

end Sys2Proof.Laws
end

