-- ==== Sys2Proof/Laws/Bus.lean ====
section
/-!
SUPPORT. The bus and the stack: a read after a write, what push and pop do to memory, and the state invariant.
-/

namespace Sys2Proof.Laws
open Sys2Proof.Machine

/-- A read sees the two memories only. -/
theorem memRead_congr {s t : State} (hm : s.mem = t.mem) (hv : s.vram = t.vram) (a : Word) :
    memRead s a = memRead t a := by
  simp [memRead, readVram, hm, hv]

theorem memRead_withPc (s : State) (x a : Word) : memRead { s with pc := x } a = memRead s a := rfl

theorem memRead_withFlagsPc (s : State) (f : Flags) (x a : Word) : memRead { s with f := f, pc := x } a = memRead s a :=
  rfl

theorem memRead_withSpPc (s : State) (x y a : Word) : memRead { s with sp := x, pc := y } a = memRead s a := rfl

theorem readReg_withPc (s : State) (x : Word) (r : Reg8) : readReg { s with pc := x } r = readReg s r := by
  cases r <;> rfl

theorem readReg_withFlagsPc (s : State) (f : Flags) (x : Word) (r : Reg8) :
    readReg { s with f := f, pc := x } r = readReg s r := by
  cases r <;> rfl

theorem readReg_memWrite (s : State) (a : Word) (v : Byte) (r : Reg8) : readReg (memWrite s a v) r = readReg s r := by
  cases r <;> simp [readReg]

theorem readReg_push16 (s : State) (v : Word) (r : Reg8) : readReg (push16 s v) r = readReg s r := by
  cases r <;> simp [readReg]

/-- A bus write changes exactly one byte (R55). -/
theorem memRead_memWrite (s : State) (a b : Word) (v : Byte) :
    memRead (memWrite s a v) b = if b = a then v else memRead s b := by
  unfold memRead memWrite readVram writeVram vramOffset inWindow
  by_cases ha : Config.windowBase ≤ a.toNat ∧ a.toNat ≤ Config.windowLast <;>
    by_cases hb : Config.windowBase ≤ b.toNat ∧ b.toNat ≤ Config.windowLast <;>
    simp only [ha, hb, decide_true, decide_false, if_true, if_false, Bool.false_eq_true, and_self,
      Memory.read_write]
  · have : (b.toNat - Config.windowBase = a.toNat - Config.windowBase) ↔ b = a := by
      rw [← BitVec.toNat_inj]; omega
    simp [this]
  · have : b ≠ a := by rintro rfl; exact hb ha
    simp [this]
  · have : b ≠ a := by rintro rfl; exact ha hb
    simp [this]
  · simp [BitVec.toNat_inj]

theorem memWrite_withSp (s : State) (x a : Word) (v : Byte) :
    memWrite { s with sp := x } a v = { memWrite s a v with sp := x } := by
  unfold memWrite writeVram; split <;> rfl

/-- A push (R210): the high byte goes just under the old `sp`, the low byte under that, and `sp` falls by two. -/
theorem push16_eq (s : State) (v : Word) :
    push16 s v = { memWrite (memWrite s (s.sp - 1) (hi8 v)) (s.sp - 2) (lo8 v) with sp := s.sp - 2 } := by
  have hsp : s.sp - 1 - 1 = s.sp - 2 := by rw [BitVec.sub_sub]; rfl
  simp only [push16, memWrite_withSp, hsp]

/-- The bytes after a push. -/
theorem memRead_push16 (s : State) (v : Word) (b : Word) :
    memRead (push16 s v) b = if b = s.sp - 2 then lo8 v else if b = s.sp - 1 then hi8 v else memRead s b := by
  rw [push16_eq, ← memRead_memWrite, ← memRead_memWrite]
  exact memRead_congr rfl rfl b

/-- The value popped (R211). -/
theorem pop16_value (s : State) : (pop16 s).1 = join (memRead s (s.sp + 1)) (memRead s s.sp) := rfl

/-! ### The invariant -/

theorem wf_of_memories {s t : State} (hm : s.mem = t.mem) (hv : s.vram = t.vram) (h : s.wf = true) : t.wf = true := by
  simpa [State.wf, hm, hv] using h

/-- A bus write keeps both memories canonical and inside their bounds. -/
theorem wf_memWrite {s : State} {a : Word} {v : Byte} (h : s.wf = true) : (memWrite s a v).wf = true := by
  simp only [State.wf, Bool.and_eq_true] at h
  obtain ⟨⟨⟨hm, hv⟩, hmb⟩, hvb⟩ := h
  unfold memWrite writeVram vramOffset inWindow
  split <;> rename_i hw <;> simp only [decide_eq_true_eq] at hw <;>
    simp only [State.wf, Bool.and_eq_true]
  · refine ⟨⟨⟨hm, Memory.wf_write hv⟩, hmb⟩, Memory.all_write hvb ?_⟩
    unfold Config.windowBase Config.windowLast at hw
    exact decide_eq_true (by unfold Config.windowBase Config.vramSize; omega)
  · refine ⟨⟨⟨Memory.wf_write hm, hv⟩, Memory.all_write hmb ?_⟩, hvb⟩
    have := a.isLt
    rw [Bool.and_eq_true]
    exact ⟨decide_eq_true this, by rw [decide_eq_false hw]; rfl⟩

/-- A push keeps the invariant. -/
theorem wf_push16 {s : State} {v : Word} (h : s.wf = true) : (push16 s v).wf = true := by
  rw [push16_eq]
  exact wf_of_memories rfl rfl (wf_memWrite (wf_memWrite h))

end Sys2Proof.Laws
end

