-- ==== Sys2Proof/Laws/Dispatch.lean ====
section
/-!
SUPPORT. `exec` and `step` said once: `exec` runs the family operation of the row an instruction stands for, and
`step` runs the row it fetches. Proofs about instructions cite these instead of unfolding 153 arms.
-/

namespace Sys2Proof.Laws
open Sys2Proof.Machine

/-- The family operation of a descriptor. -/
def execute (d : Descriptor) (s : State) : Result :=
  match d with
  | .nop => nop s
  | .add r => addAccumulator r s
  | .addHl rr => addHl rr s
  | .inc r => incReg r s
  | .dec r => decReg r s
  | .incRr rr => incRr rr s
  | .decRr rr => decRr rr s
  | .incMem => incMem s
  | .decMem => decMem s
  | .ldByte target source => ldByte target source s
  | .ldWord rr => unimplemented (.ldWord rr) s
  | .ldIndirectFromA x => unimplemented (.ldIndirectFromA x) s
  | .ldAFromIndirect x => unimplemented (.ldAFromIndirect x) s
  | .ldIndirectFromSp => unimplemented .ldIndirectFromSp s
  | .jp test => jump test s
  | .call test => call test s
  | .ret test => ret test s
  | .push qq => push qq s
  | .pop qq => pop qq s
  | .rlca => unimplemented .rlca s
  | .rrca => unimplemented .rrca s
  | .rla => unimplemented .rla s
  | .rra => unimplemented .rra s

/-- What a row does. -/
def executeRow (row : Row) (s : State) : Result :=
  match row with
  | .descriptor d => execute d s
  | .miss byte prefixed => unknownOpcode byte prefixed s

/-- `exec` runs the row its instruction stands for. -/
theorem exec_eq_executeRow (i : Instr) (s : State) : exec i s = executeRow i.row s := by
  cases i <;> rfl

theorem exec_of_descriptor {i : Instr} {d : Descriptor} (h : i.row = .descriptor d) (s : State) :
    exec i s = execute d s := by
  rw [exec_eq_executeRow, h]; rfl

theorem exec_of_miss {i : Instr} {byte : Byte} {prefixed : Bool} (h : i.row = .miss byte prefixed) (s : State) :
    exec i s = unknownOpcode byte prefixed s := by
  rw [exec_eq_executeRow, h]; rfl

/-- `step` in each of the three cases of R118. -/
theorem step_of_fault {s : State} {condition : Fault} (h : s.fault = some condition) : step s = .fault condition := by
  simp [step, h]

theorem step_of_halted {s : State} (hf : s.fault = none) (hh : s.halted = true) : step s = .next s := by
  simp [step, hf, hh]

theorem step_of_running {s : State} (hf : s.fault = none) (hh : s.halted = false) :
    step s = exec (rowOf (fetch s).1 (fetch s).2) s := by
  simp [step, hf, hh]

end Sys2Proof.Laws
end

