-- ==== Sys2Proof/Laws/PerInstr.lean ====
section
/-!
SUPPORT. The per-instruction family `RoundTrip`: an instruction's own opcode bytes, with any bytes after them, decode
to it. One lemma per constructor.
-/

namespace Sys2Proof.Laws

/-- The opcode bytes of a well-formed instruction decode to it and leave the bytes after them. -/
def RoundTrip.Statement (i : Instr) : Prop :=
  i.wf = true → decodeBytes (encode i) = .ok (i, [])

theorem RoundTrip.nop : RoundTrip.Statement .nop := fun _ => rfl

theorem RoundTrip.ldBcD16 : RoundTrip.Statement .ldBcD16 := fun _ => rfl

theorem RoundTrip.ldIndBcA : RoundTrip.Statement .ldIndBcA := fun _ => rfl

theorem RoundTrip.incBc : RoundTrip.Statement .incBc := fun _ => rfl

theorem RoundTrip.incB : RoundTrip.Statement .incB := fun _ => rfl

theorem RoundTrip.decB : RoundTrip.Statement .decB := fun _ => rfl

theorem RoundTrip.ldBD8 : RoundTrip.Statement .ldBD8 := fun _ => rfl

theorem RoundTrip.rlca : RoundTrip.Statement .rlca := fun _ => rfl

theorem RoundTrip.ldIndA16Sp : RoundTrip.Statement .ldIndA16Sp := fun _ => rfl

theorem RoundTrip.addHlBc : RoundTrip.Statement .addHlBc := fun _ => rfl

theorem RoundTrip.ldAIndBc : RoundTrip.Statement .ldAIndBc := fun _ => rfl

theorem RoundTrip.decBc : RoundTrip.Statement .decBc := fun _ => rfl

theorem RoundTrip.incC : RoundTrip.Statement .incC := fun _ => rfl

theorem RoundTrip.decC : RoundTrip.Statement .decC := fun _ => rfl

theorem RoundTrip.ldCD8 : RoundTrip.Statement .ldCD8 := fun _ => rfl

theorem RoundTrip.rrca : RoundTrip.Statement .rrca := fun _ => rfl

theorem RoundTrip.ldDeD16 : RoundTrip.Statement .ldDeD16 := fun _ => rfl

theorem RoundTrip.ldIndDeA : RoundTrip.Statement .ldIndDeA := fun _ => rfl

theorem RoundTrip.incDe : RoundTrip.Statement .incDe := fun _ => rfl

theorem RoundTrip.incD : RoundTrip.Statement .incD := fun _ => rfl

theorem RoundTrip.decD : RoundTrip.Statement .decD := fun _ => rfl

theorem RoundTrip.ldDD8 : RoundTrip.Statement .ldDD8 := fun _ => rfl

theorem RoundTrip.rla : RoundTrip.Statement .rla := fun _ => rfl

theorem RoundTrip.addHlDe : RoundTrip.Statement .addHlDe := fun _ => rfl

theorem RoundTrip.ldAIndDe : RoundTrip.Statement .ldAIndDe := fun _ => rfl

theorem RoundTrip.decDe : RoundTrip.Statement .decDe := fun _ => rfl

theorem RoundTrip.incE : RoundTrip.Statement .incE := fun _ => rfl

theorem RoundTrip.decE : RoundTrip.Statement .decE := fun _ => rfl

theorem RoundTrip.ldED8 : RoundTrip.Statement .ldED8 := fun _ => rfl

theorem RoundTrip.rra : RoundTrip.Statement .rra := fun _ => rfl

theorem RoundTrip.ldHlD16 : RoundTrip.Statement .ldHlD16 := fun _ => rfl

theorem RoundTrip.ldIndHlIncA : RoundTrip.Statement .ldIndHlIncA := fun _ => rfl

theorem RoundTrip.incH : RoundTrip.Statement .incH := fun _ => rfl

theorem RoundTrip.decH : RoundTrip.Statement .decH := fun _ => rfl

theorem RoundTrip.ldHD8 : RoundTrip.Statement .ldHD8 := fun _ => rfl

theorem RoundTrip.addHlHl : RoundTrip.Statement .addHlHl := fun _ => rfl

theorem RoundTrip.ldAIndHlInc : RoundTrip.Statement .ldAIndHlInc := fun _ => rfl

theorem RoundTrip.incL : RoundTrip.Statement .incL := fun _ => rfl

theorem RoundTrip.decL : RoundTrip.Statement .decL := fun _ => rfl

theorem RoundTrip.ldLD8 : RoundTrip.Statement .ldLD8 := fun _ => rfl

theorem RoundTrip.ldSpD16 : RoundTrip.Statement .ldSpD16 := fun _ => rfl

theorem RoundTrip.ldIndHlDecA : RoundTrip.Statement .ldIndHlDecA := fun _ => rfl

theorem RoundTrip.incSp : RoundTrip.Statement .incSp := fun _ => rfl

theorem RoundTrip.incIndHl : RoundTrip.Statement .incIndHl := fun _ => rfl

theorem RoundTrip.decIndHl : RoundTrip.Statement .decIndHl := fun _ => rfl

theorem RoundTrip.ldIndHlD8 : RoundTrip.Statement .ldIndHlD8 := fun _ => rfl

theorem RoundTrip.addHlSp : RoundTrip.Statement .addHlSp := fun _ => rfl

theorem RoundTrip.ldAIndHlDec : RoundTrip.Statement .ldAIndHlDec := fun _ => rfl

theorem RoundTrip.decSp : RoundTrip.Statement .decSp := fun _ => rfl

theorem RoundTrip.incA : RoundTrip.Statement .incA := fun _ => rfl

theorem RoundTrip.decA : RoundTrip.Statement .decA := fun _ => rfl

theorem RoundTrip.ldAD8 : RoundTrip.Statement .ldAD8 := fun _ => rfl

theorem RoundTrip.ldBB : RoundTrip.Statement .ldBB := fun _ => rfl

theorem RoundTrip.ldBC : RoundTrip.Statement .ldBC := fun _ => rfl

theorem RoundTrip.ldBD : RoundTrip.Statement .ldBD := fun _ => rfl

theorem RoundTrip.ldBE : RoundTrip.Statement .ldBE := fun _ => rfl

theorem RoundTrip.ldBH : RoundTrip.Statement .ldBH := fun _ => rfl

theorem RoundTrip.ldBL : RoundTrip.Statement .ldBL := fun _ => rfl

theorem RoundTrip.ldBIndHl : RoundTrip.Statement .ldBIndHl := fun _ => rfl

theorem RoundTrip.ldBA : RoundTrip.Statement .ldBA := fun _ => rfl

theorem RoundTrip.ldCB : RoundTrip.Statement .ldCB := fun _ => rfl

theorem RoundTrip.ldCC : RoundTrip.Statement .ldCC := fun _ => rfl

theorem RoundTrip.ldCD : RoundTrip.Statement .ldCD := fun _ => rfl

theorem RoundTrip.ldCE : RoundTrip.Statement .ldCE := fun _ => rfl

theorem RoundTrip.ldCH : RoundTrip.Statement .ldCH := fun _ => rfl

theorem RoundTrip.ldCL : RoundTrip.Statement .ldCL := fun _ => rfl

theorem RoundTrip.ldCIndHl : RoundTrip.Statement .ldCIndHl := fun _ => rfl

theorem RoundTrip.ldCA : RoundTrip.Statement .ldCA := fun _ => rfl

theorem RoundTrip.ldDB : RoundTrip.Statement .ldDB := fun _ => rfl

theorem RoundTrip.ldDC : RoundTrip.Statement .ldDC := fun _ => rfl

theorem RoundTrip.ldDD : RoundTrip.Statement .ldDD := fun _ => rfl

theorem RoundTrip.ldDE : RoundTrip.Statement .ldDE := fun _ => rfl

theorem RoundTrip.ldDH : RoundTrip.Statement .ldDH := fun _ => rfl

theorem RoundTrip.ldDL : RoundTrip.Statement .ldDL := fun _ => rfl

theorem RoundTrip.ldDIndHl : RoundTrip.Statement .ldDIndHl := fun _ => rfl

theorem RoundTrip.ldDA : RoundTrip.Statement .ldDA := fun _ => rfl

theorem RoundTrip.ldEB : RoundTrip.Statement .ldEB := fun _ => rfl

theorem RoundTrip.ldEC : RoundTrip.Statement .ldEC := fun _ => rfl

theorem RoundTrip.ldED : RoundTrip.Statement .ldED := fun _ => rfl

theorem RoundTrip.ldEE : RoundTrip.Statement .ldEE := fun _ => rfl

theorem RoundTrip.ldEH : RoundTrip.Statement .ldEH := fun _ => rfl

theorem RoundTrip.ldEL : RoundTrip.Statement .ldEL := fun _ => rfl

theorem RoundTrip.ldEIndHl : RoundTrip.Statement .ldEIndHl := fun _ => rfl

theorem RoundTrip.ldEA : RoundTrip.Statement .ldEA := fun _ => rfl

theorem RoundTrip.ldHB : RoundTrip.Statement .ldHB := fun _ => rfl

theorem RoundTrip.ldHC : RoundTrip.Statement .ldHC := fun _ => rfl

theorem RoundTrip.ldHD : RoundTrip.Statement .ldHD := fun _ => rfl

theorem RoundTrip.ldHE : RoundTrip.Statement .ldHE := fun _ => rfl

theorem RoundTrip.ldHH : RoundTrip.Statement .ldHH := fun _ => rfl

theorem RoundTrip.ldHL : RoundTrip.Statement .ldHL := fun _ => rfl

theorem RoundTrip.ldHIndHl : RoundTrip.Statement .ldHIndHl := fun _ => rfl

theorem RoundTrip.ldHA : RoundTrip.Statement .ldHA := fun _ => rfl

theorem RoundTrip.ldLB : RoundTrip.Statement .ldLB := fun _ => rfl

theorem RoundTrip.ldLC : RoundTrip.Statement .ldLC := fun _ => rfl

theorem RoundTrip.ldLD : RoundTrip.Statement .ldLD := fun _ => rfl

theorem RoundTrip.ldLE : RoundTrip.Statement .ldLE := fun _ => rfl

theorem RoundTrip.ldLH : RoundTrip.Statement .ldLH := fun _ => rfl

theorem RoundTrip.ldLL : RoundTrip.Statement .ldLL := fun _ => rfl

theorem RoundTrip.ldLIndHl : RoundTrip.Statement .ldLIndHl := fun _ => rfl

theorem RoundTrip.ldLA : RoundTrip.Statement .ldLA := fun _ => rfl

theorem RoundTrip.ldIndHlB : RoundTrip.Statement .ldIndHlB := fun _ => rfl

theorem RoundTrip.ldIndHlC : RoundTrip.Statement .ldIndHlC := fun _ => rfl

theorem RoundTrip.ldIndHlD : RoundTrip.Statement .ldIndHlD := fun _ => rfl

theorem RoundTrip.ldIndHlE : RoundTrip.Statement .ldIndHlE := fun _ => rfl

theorem RoundTrip.ldIndHlH : RoundTrip.Statement .ldIndHlH := fun _ => rfl

theorem RoundTrip.ldIndHlL : RoundTrip.Statement .ldIndHlL := fun _ => rfl

theorem RoundTrip.ldIndHlA : RoundTrip.Statement .ldIndHlA := fun _ => rfl

theorem RoundTrip.ldAB : RoundTrip.Statement .ldAB := fun _ => rfl

theorem RoundTrip.ldAC : RoundTrip.Statement .ldAC := fun _ => rfl

theorem RoundTrip.ldAD : RoundTrip.Statement .ldAD := fun _ => rfl

theorem RoundTrip.ldAE : RoundTrip.Statement .ldAE := fun _ => rfl

theorem RoundTrip.ldAH : RoundTrip.Statement .ldAH := fun _ => rfl

theorem RoundTrip.ldAL : RoundTrip.Statement .ldAL := fun _ => rfl

theorem RoundTrip.ldAIndHl : RoundTrip.Statement .ldAIndHl := fun _ => rfl

theorem RoundTrip.ldAA : RoundTrip.Statement .ldAA := fun _ => rfl

theorem RoundTrip.addAB : RoundTrip.Statement .addAB := fun _ => rfl

theorem RoundTrip.addAC : RoundTrip.Statement .addAC := fun _ => rfl

theorem RoundTrip.addAD : RoundTrip.Statement .addAD := fun _ => rfl

theorem RoundTrip.addAE : RoundTrip.Statement .addAE := fun _ => rfl

theorem RoundTrip.addAH : RoundTrip.Statement .addAH := fun _ => rfl

theorem RoundTrip.addAL : RoundTrip.Statement .addAL := fun _ => rfl

theorem RoundTrip.addAA : RoundTrip.Statement .addAA := fun _ => rfl

theorem RoundTrip.retNz : RoundTrip.Statement .retNz := fun _ => rfl

theorem RoundTrip.popBc : RoundTrip.Statement .popBc := fun _ => rfl

theorem RoundTrip.jpNz : RoundTrip.Statement .jpNz := fun _ => rfl

theorem RoundTrip.jp : RoundTrip.Statement .jp := fun _ => rfl

theorem RoundTrip.callNz : RoundTrip.Statement .callNz := fun _ => rfl

theorem RoundTrip.pushBc : RoundTrip.Statement .pushBc := fun _ => rfl

theorem RoundTrip.retZ : RoundTrip.Statement .retZ := fun _ => rfl

theorem RoundTrip.ret : RoundTrip.Statement .ret := fun _ => rfl

theorem RoundTrip.jpZ : RoundTrip.Statement .jpZ := fun _ => rfl

theorem RoundTrip.callZ : RoundTrip.Statement .callZ := fun _ => rfl

theorem RoundTrip.call : RoundTrip.Statement .call := fun _ => rfl

theorem RoundTrip.retNc : RoundTrip.Statement .retNc := fun _ => rfl

theorem RoundTrip.popDe : RoundTrip.Statement .popDe := fun _ => rfl

theorem RoundTrip.jpNc : RoundTrip.Statement .jpNc := fun _ => rfl

theorem RoundTrip.callNc : RoundTrip.Statement .callNc := fun _ => rfl

theorem RoundTrip.pushDe : RoundTrip.Statement .pushDe := fun _ => rfl

theorem RoundTrip.retC : RoundTrip.Statement .retC := fun _ => rfl

theorem RoundTrip.jpC : RoundTrip.Statement .jpC := fun _ => rfl

theorem RoundTrip.callC : RoundTrip.Statement .callC := fun _ => rfl

theorem RoundTrip.ldhIndA8A : RoundTrip.Statement .ldhIndA8A := fun _ => rfl

theorem RoundTrip.popHl : RoundTrip.Statement .popHl := fun _ => rfl

theorem RoundTrip.ldIndCA : RoundTrip.Statement .ldIndCA := fun _ => rfl

theorem RoundTrip.pushHl : RoundTrip.Statement .pushHl := fun _ => rfl

theorem RoundTrip.ldIndA16A : RoundTrip.Statement .ldIndA16A := fun _ => rfl

theorem RoundTrip.ldhAIndA8 : RoundTrip.Statement .ldhAIndA8 := fun _ => rfl

theorem RoundTrip.popAf : RoundTrip.Statement .popAf := fun _ => rfl

theorem RoundTrip.ldAIndC : RoundTrip.Statement .ldAIndC := fun _ => rfl

theorem RoundTrip.pushAf : RoundTrip.Statement .pushAf := fun _ => rfl

theorem RoundTrip.ldAIndA16 : RoundTrip.Statement .ldAIndA16 := fun _ => rfl

end Sys2Proof.Laws
end

