-- ==== Sys2Proof/Tests/Slice0.lean ====
section
/-!
SUPPORT. The model's own tests: ill-formed terms, the decoding of every constructor from words written out from the
table's encodings, single steps with the expected results of spec/95_test_vectors.md (V<n>), and a witness for the
hypotheses of every statement that has some.
-/

namespace Sys2Proof.Tests
open Sys2Proof.Machine

/-- Flags from the vectors' notation `Z N H C`. -/
def fl (z n h c : Nat) : Flags := { z := z != 0, n := n != 0, h := h != 0, c := c != 0 }

/-- The vectors' start state: pc 0x1000, sp 0xC000. -/
def st : State := { State.reset with pc := 0x1000, sp := 0xC000 }

/-- One step with the bytes at pc. -/
def runOne (s : State) (bytes : List Byte) : Result := step (storeBytes s s.pc bytes)

/-- Does the outcome answer a next state with the property? -/
def after (o : Result) (p : State → Bool) : Bool :=
  match o with
  | .next t => p t
  | .fault _ | .refused _ => false

/-! ### Well-formedness -/

theorem test_illformed_decodeMiss_of_an_instruction : (Instr.decodeMiss 0x00).wf = false := by decide
theorem test_illformed_decodeMiss_of_cb : (Instr.decodeMiss 0xCB).wf = false := by decide
theorem test_wellformed_decodeMiss : (Instr.decodeMiss 0xD3).wf = true := by decide
theorem test_illformed_incRr_hl : (Descriptor.incRr .hl).wf = false := by decide
theorem test_illformed_decRr_hl : (Descriptor.decRr .hl).wf = false := by decide
theorem test_illformed_ld_memory_from_memory : (Descriptor.ldByte .memHl .memHl).wf = false := by decide

/-! ### Decoding, from words written out in binary (30_encoding.md R85, R86, R89) -/

theorem test_decode_R220 :
    [0b00000000].map (decode · false) =
    [some .nop] := by
  decide

theorem test_decode_R177 :
    [0b00000001, 0b00010001, 0b00100001, 0b00110001].map (decode · false) =
    [some .ldBcD16, some .ldDeD16, some .ldHlD16, some .ldSpD16] := by
  decide

theorem test_decode_R178 :
    [0b00000010, 0b00010010, 0b00100010, 0b00110010, 0b11100000, 0b11100010, 0b11101010].map (decode · false) =
    [some .ldIndBcA, some .ldIndDeA, some .ldIndHlIncA, some .ldIndHlDecA, some .ldhIndA8A, some .ldIndCA,
    some .ldIndA16A] := by
  decide

theorem test_decode_R138 :
    [0b00000011, 0b00010011, 0b00110011].map (decode · false) =
    [some .incBc, some .incDe, some .incSp] := by
  decide

theorem test_decode_R136 :
    [0b00000100, 0b00001100, 0b00010100, 0b00011100, 0b00100100, 0b00101100, 0b00111100].map (decode · false) =
    [some .incB, some .incC, some .incD, some .incE, some .incH, some .incL, some .incA] := by
  decide

theorem test_decode_R137 :
    [0b00000101, 0b00001101, 0b00010101, 0b00011101, 0b00100101, 0b00101101, 0b00111101].map (decode · false) =
    [some .decB, some .decC, some .decD, some .decE, some .decH, some .decL, some .decA] := by
  decide

theorem test_decode_R175 :
    [0b00000110, 0b00001110, 0b00010110, 0b00011110, 0b00100110, 0b00101110, 0b00111110].map (decode · false) =
    [some .ldBD8, some .ldCD8, some .ldDD8, some .ldED8, some .ldHD8, some .ldLD8, some .ldAD8] := by
  decide

theorem test_decode_R221 :
    [0b00000111].map (decode · false) =
    [some .rlca] := by
  decide

theorem test_decode_R180 :
    [0b00001000].map (decode · false) =
    [some .ldIndA16Sp] := by
  decide

theorem test_decode_R135 :
    [0b00001001, 0b00011001, 0b00101001, 0b00111001].map (decode · false) =
    [some .addHlBc, some .addHlDe, some .addHlHl, some .addHlSp] := by
  decide

theorem test_decode_R179 :
    [0b00001010, 0b00011010, 0b00101010, 0b00111010, 0b11110000, 0b11110010, 0b11111010].map (decode · false) =
    [some .ldAIndBc, some .ldAIndDe, some .ldAIndHlInc, some .ldAIndHlDec, some .ldhAIndA8, some .ldAIndC,
    some .ldAIndA16] := by
  decide

theorem test_decode_R139 :
    [0b00001011, 0b00011011, 0b00111011].map (decode · false) =
    [some .decBc, some .decDe, some .decSp] := by
  decide

theorem test_decode_R222 :
    [0b00001111].map (decode · false) =
    [some .rrca] := by
  decide

theorem test_decode_R223 :
    [0b00010111].map (decode · false) =
    [some .rla] := by
  decide

theorem test_decode_R224 :
    [0b00011111].map (decode · false) =
    [some .rra] := by
  decide

theorem test_decode_R140 :
    [0b00110100].map (decode · false) =
    [some .incIndHl] := by
  decide

theorem test_decode_R141 :
    [0b00110101].map (decode · false) =
    [some .decIndHl] := by
  decide

theorem test_decode_R176 :
    [0b00110110].map (decode · false) =
    [some .ldIndHlD8] := by
  decide

theorem test_decode_R172_part1 :
    [0b01000000, 0b01000001, 0b01000010, 0b01000011, 0b01000100, 0b01000101, 0b01000111, 0b01001000, 0b01001001,
    0b01001010, 0b01001011, 0b01001100, 0b01001101, 0b01001111, 0b01010000, 0b01010001].map (decode · false) =
    [some .ldBB, some .ldBC, some .ldBD, some .ldBE, some .ldBH, some .ldBL, some .ldBA, some .ldCB, some .ldCC,
    some .ldCD, some .ldCE, some .ldCH, some .ldCL, some .ldCA, some .ldDB, some .ldDC] := by
  decide

theorem test_decode_R172_part2 :
    [0b01010010, 0b01010011, 0b01010100, 0b01010101, 0b01010111, 0b01011000, 0b01011001, 0b01011010, 0b01011011,
    0b01011100, 0b01011101, 0b01011111, 0b01100000, 0b01100001, 0b01100010, 0b01100011].map (decode · false) =
    [some .ldDD, some .ldDE, some .ldDH, some .ldDL, some .ldDA, some .ldEB, some .ldEC, some .ldED, some .ldEE,
    some .ldEH, some .ldEL, some .ldEA, some .ldHB, some .ldHC, some .ldHD, some .ldHE] := by
  decide

theorem test_decode_R172_part3 :
    [0b01100100, 0b01100101, 0b01100111, 0b01101000, 0b01101001, 0b01101010, 0b01101011, 0b01101100, 0b01101101,
    0b01101111, 0b01111000, 0b01111001, 0b01111010, 0b01111011, 0b01111100, 0b01111101].map (decode · false) =
    [some .ldHH, some .ldHL, some .ldHA, some .ldLB, some .ldLC, some .ldLD, some .ldLE, some .ldLH, some .ldLL,
    some .ldLA, some .ldAB, some .ldAC, some .ldAD, some .ldAE, some .ldAH, some .ldAL] := by
  decide

theorem test_decode_R172_part4 :
    [0b01111111].map (decode · false) =
    [some .ldAA] := by
  decide

theorem test_decode_R173 :
    [0b01000110, 0b01001110, 0b01010110, 0b01011110, 0b01100110, 0b01101110, 0b01111110].map (decode · false) =
    [some .ldBIndHl, some .ldCIndHl, some .ldDIndHl, some .ldEIndHl, some .ldHIndHl, some .ldLIndHl,
    some .ldAIndHl] := by
  decide

theorem test_decode_R174 :
    [0b01110000, 0b01110001, 0b01110010, 0b01110011, 0b01110100, 0b01110101, 0b01110111].map (decode · false) =
    [some .ldIndHlB, some .ldIndHlC, some .ldIndHlD, some .ldIndHlE, some .ldIndHlH, some .ldIndHlL,
    some .ldIndHlA] := by
  decide

theorem test_decode_R134 :
    [0b10000000, 0b10000001, 0b10000010, 0b10000011, 0b10000100, 0b10000101, 0b10000111].map (decode · false) =
    [some .addAB, some .addAC, some .addAD, some .addAE, some .addAH, some .addAL, some .addAA] := by
  decide

theorem test_decode_R193 :
    [0b11000000, 0b11001000, 0b11001001, 0b11010000, 0b11011000].map (decode · false) =
    [some .retNz, some .retZ, some .ret, some .retNc, some .retC] := by
  decide

theorem test_decode_R213 :
    [0b11000001, 0b11010001, 0b11100001, 0b11110001].map (decode · false) =
    [some .popBc, some .popDe, some .popHl, some .popAf] := by
  decide

theorem test_decode_R191 :
    [0b11000010, 0b11000011, 0b11001010, 0b11010010, 0b11011010].map (decode · false) =
    [some .jpNz, some .jp, some .jpZ, some .jpNc, some .jpC] := by
  decide

theorem test_decode_R192 :
    [0b11000100, 0b11001100, 0b11001101, 0b11010100, 0b11011100].map (decode · false) =
    [some .callNz, some .callZ, some .call, some .callNc, some .callC] := by
  decide

theorem test_decode_R212 :
    [0b11000101, 0b11010101, 0b11100101, 0b11110101].map (decode · false) =
    [some .pushBc, some .pushDe, some .pushHl, some .pushAf] := by
  decide

theorem test_decode_misses :
    [0x10, 0x23, 0x76, 0x86, 0xC6, 0xCB, 0xFF].map (decode · false) = [none, none, none, none, none, none, none] := by
  decide

theorem test_row_of_decode_miss : decodeTableWord 8 0b00010000 = some (.decodeMiss 0x10) := by decide
theorem test_row_of_prefixed_decode_miss :
    decodeTableWord 16 0b1100101100010001 = some (.prefixedDecodeMiss 0x11) := by decide
theorem test_row_of_prefixed_low_byte_first : decodeTableWord 16 0x11CB = some (.prefixedDecodeMiss 0x11) := by decide
theorem test_bytes_end_after_cb : decodeBytes [0xCB] = .error .nothingAfterCb := by decide
theorem test_no_bytes : decodeBytes [] = .error .noByte := by decide

/-- The first step after reset runs the placed word: LD A,d8 with the zero byte after it. -/
theorem test_withFetchWord_runs :
    after (step ({ State.reset with a := 0x55 }.withFetchWord 8 0x3E)) (fun t => t.a == 0 && t.pc == 2) = true := by
  decide

theorem test_withFetchWord_prefixed :
    after (step (State.reset.withFetchWord 16 0xCB37)) (fun t => t.fault == some (.unknownOpcode 0x37 true)) = true := by
  decide

/-! ### Single steps, expected results from spec/95_test_vectors.md -/

/-- V3, the source: 0x01 + 0x03. -/
theorem test_add_B :
    after (runOne { st with a := 0x01, b := 0x03 } [0x80]) (fun t => t.a == 0x04 && t.f == fl 0 0 0 0 && t.pc == 0x1001) = true := by
  decide

/-- V4, the source: 0x02 + 0xFF. -/
theorem test_add_C :
    after (runOne { st with a := 0x02, c := 0xFF } [0x81]) (fun t => t.a == 0x01 && t.f == fl 0 0 1 1) = true := by
  decide

/-- V20. -/
theorem test_add_A :
    after (runOne { st with a := 0x80 } [0x87]) (fun t => t.a == 0x00 && t.f == fl 1 0 0 1) = true := by
  decide

/-- V6, the source. -/
theorem test_addHl_Bc_wraps :
    after (runOne { st with h := 0x00, l := 0x01, b := 0xFF, c := 0xFF } [0x09, 0x3C]) (fun t => t.h == 0 && t.l == 0 && t.a == 0 && t.f == fl 1 0 1 1 && t.pc == 0x1002) = true := by
  decide

/-- V25. -/
theorem test_addHl_De_no_bit11_carry :
    after (runOne { st with h := 0x0F, l := 0x00, d := 0x01, e := 0x00 } [0x19, 0x00]) (fun t => t.h == 0x10 && t.l == 0x00 && t.f == fl 0 0 0 0) = true := by
  decide

/-- V24. -/
theorem test_addHl_Hl :
    after (runOne { st with h := 0x80 } [0x29, 0x00]) (fun t => t.h == 0 && t.l == 0 && t.f == fl 1 0 0 1) = true := by
  decide

/-- V26. -/
theorem test_addHl_Sp :
    after (runOne { st with h := 0x12, l := 0x20, sp := 0x00F0 } [0x39, 0x00]) (fun t => t.h == 0x13 && t.l == 0x10 && t.sp == 0x00F0 && t.f == fl 0 0 1 0) = true := by
  decide

/-- V28. -/
theorem test_inc_A_wraps :
    after (runOne { st with a := 0xFF } [0x3C]) (fun t => t.a == 0 && t.f == fl 1 0 1 1) = true := by
  decide

/-- V29. -/
theorem test_inc_B_clears_carry :
    after (runOne { st with b := 0x0F, f := fl 0 0 0 1 } [0x04]) (fun t => t.b == 0x10 && t.f == fl 0 0 1 0) = true := by
  decide

/-- V8, the source. -/
theorem test_dec_A_half_borrow :
    after (runOne { st with a := 0x10, f := fl 0 0 0 1 } [0x3D]) (fun t => t.a == 0x0F && t.f == fl 0 1 1 1) = true := by
  decide

/-- V31. -/
theorem test_dec_C_wraps_keeps_carry :
    after (runOne { st with c := 0x00, f := fl 0 0 0 1 } [0x0D]) (fun t => t.c == 0xFF && t.f == fl 0 1 1 1) = true := by
  decide

/-- V34. -/
theorem test_inc_De_no_flags :
    after (runOne { st with d := 0xFF, e := 0xFF, f := fl 1 0 0 1 } [0x13, 0x00]) (fun t => t.d == 0 && t.e == 0 && t.f == fl 1 0 0 1 && t.pc == 0x1002) = true := by
  decide

/-- V35. -/
theorem test_inc_Sp_wraps :
    after (runOne { st with sp := 0xFFFF } [0x33, 0x00]) (fun t => t.sp == 0) = true := by
  decide

/-- V36. -/
theorem test_dec_Bc_borrows :
    after (runOne { st with b := 0x01, c := 0x00 } [0x0B, 0x00]) (fun t => t.b == 0x00 && t.c == 0xFF && t.pc == 0x1002) = true := by
  decide

/-- V37. -/
theorem test_dec_Sp_wraps :
    after (runOne { st with sp := 0x0000 } [0x3B, 0x00]) (fun t => t.sp == 0xFFFF) = true := by
  decide

/-- V38. -/
theorem test_incIndHl_vram_end :
    after (runOne (storeBytes { st with h := 0x9F, l := 0xFF } 0x9FFF [0x7F]) [0x34, 0x00, 0x00]) (fun t => t.vram == [(0x1FFF, 0x80)] && t.f == fl 0 0 1 0 && t.pc == 0x1003) = true := by
  decide

/-- V39. -/
theorem test_incIndHl_wraps :
    after (runOne (storeBytes { st with h := 0xC0, l := 0x00 } 0xC000 [0xFF]) [0x34, 0x00, 0x00]) (fun t => memRead t 0xC000 == 0 && t.f == fl 1 0 1 1) = true := by
  decide

/-- V40. -/
theorem test_decIndHl_wraps :
    after (runOne { st with h := 0xC0, l := 0x00, f := fl 0 0 0 1 } [0x35, 0x00, 0x00]) (fun t => memRead t 0xC000 == 0xFF && t.f == fl 0 1 1 1 && t.pc == 0x1003) = true := by
  decide

/-- V41. -/
theorem test_decIndHl_vram :
    after (runOne (storeBytes { st with h := 0x80, l := 0x00 } 0x8000 [0x01]) [0x35, 0x00, 0x00]) (fun t => t.vram == [] && t.f == fl 1 1 0 0) = true := by
  decide

/-- V50. -/
theorem test_ld_A_B :
    after (runOne { st with b := 0x5A, f := fl 1 0 1 0 } [0x78]) (fun t => t.a == 0x5A && t.pc == 0x1001 && t.f == fl 1 0 1 0) = true := by
  decide

/-- V52. -/
theorem test_ld_H_indHl :
    after (runOne (storeBytes { st with h := 0xC0, l := 0x10 } 0xC010 [0xAA]) [0x66]) (fun t => t.h == 0xAA && t.l == 0x10 && t.pc == 0x1001) = true := by
  decide

/-- V54. -/
theorem test_ld_indHl_H :
    after (runOne { st with h := 0xC0, l := 0x10 } [0x74]) (fun t => memRead t 0xC010 == 0xC0) = true := by
  decide

/-- V56. -/
theorem test_ld_A_d8 :
    after (runOne st [0x3E, 0x99]) (fun t => t.a == 0x99 && t.pc == 0x1002) = true := by
  decide

/-- V57. -/
theorem test_ld_A_d8_at_top :
    after (runOne { st with pc := 0xFFFF } [0x3E, 0x42]) (fun t => t.a == 0x42 && t.pc == 0x0001) = true := by
  decide

/-- V58. -/
theorem test_ld_indHl_d8_vram :
    after (runOne { st with h := 0x80, l := 0x00 } [0x36, 0xAB]) (fun t => t.vram == [(0, 0xAB)] && t.pc == 0x1002) = true := by
  decide

/-- V59. -/
theorem test_ld_Sp_d16_unimplemented :
    after (runOne st [0x31, 0xFE, 0xFF]) (fun t => t.fault == some (.unimplementedInstruction (.ldWord .sp)) && t.pc == 0x1000 && t.sp == 0xC000) = true := by
  decide

/-- V60. -/
theorem test_ld_indBc_A_unimplemented :
    after (runOne { st with b := 0xC0, a := 0x12 } [0x02]) (fun t => t.fault == some (.unimplementedInstruction (.ldIndirectFromA .bc)) && memRead t 0xC000 == 0) = true := by
  decide

/-- V61. -/
theorem test_ld_A_indDe_unimplemented :
    after (runOne { st with d := 0xC0 } [0x1A]) (fun t => t.fault == some (.unimplementedInstruction (.ldAFromIndirect .de)) && t.a == 0) = true := by
  decide

/-- V62. -/
theorem test_ld_indA16_Sp_unimplemented :
    after (runOne st [0x08, 0x00, 0xC0]) (fun t => t.fault == some (.unimplementedInstruction .ldIndirectFromSp)) = true := by
  decide

/-- V70. -/
theorem test_jp :
    after (runOne st [0xC3, 0x34, 0x12]) (fun t => t.pc == 0x1234) = true := by
  decide

/-- V71. -/
theorem test_jp_Nz_not_taken :
    after (runOne { st with f := fl 1 0 0 0 } [0xC2, 0x00, 0x20]) (fun t => t.pc == 0x1003) = true := by
  decide

/-- V73. -/
theorem test_jp_C_taken :
    after (runOne { st with f := fl 0 0 0 1 } [0xDA, 0x00, 0x20]) (fun t => t.pc == 0x2000) = true := by
  decide

/-- V75. -/
theorem test_jp_operand_wraps :
    after (runOne { st with pc := 0xFFFE } [0xC3, 0x00, 0x30]) (fun t => t.pc == 0x3000) = true := by
  decide

/-- V76. -/
theorem test_call :
    after (runOne { st with pc := 0x0100, sp := 0xFFFE } [0xCD, 0x00, 0x20]) (fun t => memRead t 0xFFFD == 0x01 && memRead t 0xFFFC == 0x03 && t.sp == 0xFFFC && t.pc == 0x2000) = true := by
  decide

/-- V77. -/
theorem test_call_Nc_not_taken :
    after (runOne { st with f := fl 0 0 0 1 } [0xD4, 0x00, 0x20]) (fun t => t.pc == 0x1003 && t.sp == 0xC000) = true := by
  decide

/-- V79. -/
theorem test_call_sp_wraps :
    after (runOne { st with sp := 0x0001 } [0xCD, 0x34, 0x12]) (fun t => memRead t 0x0000 == 0x10 && memRead t 0xFFFF == 0x03 && t.sp == 0xFFFF && t.pc == 0x1234) = true := by
  decide

/-- V80. -/
theorem test_call_reads_target_after_push :
    after (runOne { st with pc := 0xC000, sp := 0xC003 } [0xCD, 0x00, 0x00]) (fun t => memRead t 0xC002 == 0xC0 && memRead t 0xC001 == 0x03 && t.sp == 0xC001 && t.pc == 0xC003) = true := by
  decide

/-- V81. -/
theorem test_ret :
    after (runOne (storeBytes { st with sp := 0xFFFC } 0xFFFC [0x03, 0x01]) [0xC9]) (fun t => t.pc == 0x0103 && t.sp == 0xFFFE) = true := by
  decide

/-- V82. -/
theorem test_ret_Z_wraps :
    after (runOne (storeBytes { st with sp := 0xFFFF, f := fl 1 0 0 0 } 0xFFFF [0x78, 0x56]) [0xC8]) (fun t => t.pc == 0x5678 && t.sp == 0x0001) = true := by
  decide

/-- V85. -/
theorem test_ret_C_not_taken :
    after (runOne st [0xD8]) (fun t => t.pc == 0x1001 && t.sp == 0xC000) = true := by
  decide

/-- V90. -/
theorem test_push_Bc :
    after (runOne { st with sp := 0xD000, b := 0x12, c := 0x34 } [0xC5]) (fun t => memRead t 0xCFFF == 0x12 && memRead t 0xCFFE == 0x34 && t.sp == 0xCFFE && t.pc == 0x1001) = true := by
  decide

/-- V91. -/
theorem test_push_Af_wraps :
    after (runOne { st with sp := 0x0000, a := 0xAB, f := fl 1 0 0 1 } [0xF5]) (fun t => memRead t 0xFFFF == 0xAB && memRead t 0xFFFE == 0x90 && t.sp == 0xFFFE) = true := by
  decide

/-- V92. -/
theorem test_pop_Hl :
    after (runOne (storeBytes { st with sp := 0xBFFE } 0xBFFE [0x01, 0x02]) [0xE1]) (fun t => t.h == 0x02 && t.l == 0x01 && t.sp == 0xC000) = true := by
  decide

/-- V93. -/
theorem test_pop_Af :
    after (runOne (storeBytes st 0xC000 [0xFF, 0x12]) [0xF1]) (fun t => t.a == 0x12 && t.f == fl 1 1 1 1 && t.sp == 0xC002) = true := by
  decide

/-- V94. -/
theorem test_pop_Af_low_nibble :
    after (runOne (storeBytes st 0xC000 [0x0F, 0x00]) [0xF1]) (fun t => t.a == 0x00 && t.f == fl 0 0 0 0) = true := by
  decide

/-- V12, the source. -/
theorem test_nop_wraps :
    after (runOne { st with pc := 0xFFFF } [0x00]) (fun t => t.pc == 0x0000 && t.fault == none) = true := by
  decide

/-- V101. -/
theorem test_rlca_unimplemented :
    after (runOne { st with a := 0x81 } [0x07]) (fun t => t.fault == some (.unimplementedInstruction .rlca) && t.a == 0x81 && t.pc == 0x1000) = true := by
  decide

/-- V10. -/
theorem test_unknown_D3 :
    after (runOne st [0xD3]) (fun t => t.fault == some (.unknownOpcode 0xD3 false) && t.pc == 0x1000) = true := by
  decide

/-- V103. -/
theorem test_unknown_CB37 :
    after (runOne st [0xCB, 0x37]) (fun t => t.fault == some (.unknownOpcode 0x37 true) && t.pc == 0x1000) = true := by
  decide

/-- V104. -/
theorem test_unknown_CBCB :
    after (runOne st [0xCB, 0xCB]) (fun t => t.fault == some (.unknownOpcode 0xCB true)) = true := by
  decide

/-- V105. -/
theorem test_unknown_76_is_not_halt :
    after (runOne st [0x76]) (fun t => t.fault == some (.unknownOpcode 0x76 false) && t.halted == false) = true := by
  decide

/-- V110. -/
theorem test_unknown_CB_at_top :
    after (runOne { st with pc := 0xFFFF } [0xCB, 0x11]) (fun t => t.fault == some (.unknownOpcode 0x11 true) && t.pc == 0xFFFF) = true := by
  decide

/-- V108. -/
theorem test_halted_step : step { st with halted := true } = .next { st with halted := true } := by rfl

/-- V109. -/
theorem test_faulted_step :
    step { st with fault := some (.unknownOpcode 0xD3 false) } = .fault (.unknownOpcode 0xD3 false) := by rfl

/-- V11, the source: a write at 0x8000 reads back and leaves 0x7FFF and 0xA000. -/
theorem test_vram_addressing :
    let s := memWrite (storeBytes (storeBytes st 0x7FFF [0x11]) 0xA000 [0x22]) 0x8000 0x33
    memRead s 0x8000 = 0x33 ∧ memRead s 0x7FFF = 0x11 ∧ memRead s 0xA000 = 0x22 ∧ s.vram = [(0, 0x33)] := by
  decide

/-- Writing the byte an unlisted address reads as removes the cell. -/
theorem test_canonical_write : (memWrite (memWrite st 0xC000 0x12) 0xC000 0x00).mem = st.mem := by decide

theorem test_wf_refuses_falling_keys : Memory.wf [(2, 1), (1, 1)] = false := by decide
theorem test_wf_refuses_unlisted_byte : Memory.wf [(1, 0)] = false := by decide

/-! ### Witnesses: a concrete state and operands that meet each statement's hypotheses -/

theorem witness_AddAccumulatorWritesSumAndFlags : Instr.addAA.row = .descriptor (.add .a) := rfl
theorem witness_AddHlWritesSumAndFlags : Instr.addHlSp.row = .descriptor (.addHl .sp) := rfl
theorem witness_IncRegisterWritesValueAndFlags : Instr.incL.row = .descriptor (.inc .l) := rfl
theorem witness_DecRegisterWritesValueAndKeepsCarry : Instr.decA.row = .descriptor (.dec .a) := rfl
theorem witness_IncPairWritesNoFlag : Instr.incSp.row = .descriptor (.incRr .sp) := rfl
theorem witness_DecPairWritesNoFlag : Instr.decSp.row = .descriptor (.decRr .sp) := rfl
theorem witness_IncMemoryWritesByteAndFlags : ∃ v, v = memRead st (join st.h st.l) := ⟨_, rfl⟩
theorem witness_DecMemoryWritesByteAndKeepsCarry : ∃ v, v = memRead st (join st.h st.l) := ⟨_, rfl⟩
theorem witness_AdditionCarryCompletesTheSum_byte :
    Instr.addAB.row = .descriptor (.add .b) ∧ ∃ t, exec .addAB { st with a := 0xFF, b := 0x01 } = .next t :=
  ⟨rfl, _, rfl⟩
theorem witness_AdditionCarryCompletesTheSum_word :
    Instr.addHlHl.row = .descriptor (.addHl .hl) ∧ ∃ t, exec .addHlHl { st with h := 0x80 } = .next t :=
  ⟨rfl, _, rfl⟩
theorem witness_LoadRegisterFromRegister : Instr.ldAB.row = .descriptor (.ldByte (.reg .a) (.reg .b)) := rfl
theorem witness_LoadRegisterFromMemory : Instr.ldHIndHl.row = .descriptor (.ldByte (.reg .h) .memHl) := rfl
theorem witness_StoreRegisterToMemory : Instr.ldIndHlL.row = .descriptor (.ldByte .memHl (.reg .l)) := rfl
theorem witness_LoadRegisterImmediate : Instr.ldAD8.row = .descriptor (.ldByte (.reg .a) .imm) := rfl
theorem witness_UnimplementedLoadsRaise :
    Instr.ldSpD16.row = .descriptor (.ldWord .sp) ∧ Instr.ldhIndA8A.row = .descriptor (.ldIndirectFromA .highA8) ∧
    Instr.ldAIndA16.row = .descriptor (.ldAFromIndirect .a16) := ⟨rfl, rfl, rfl⟩
theorem witness_JumpTakenAndNotTaken :
    Instr.jpNz.row = .descriptor (.jp .notZero) ∧ testHolds (fl 0 0 0 0) .notZero = true ∧
    testHolds (fl 1 0 0 0) .notZero = false := by decide
theorem witness_CallTakenAndNotTaken :
    Instr.callC.row = .descriptor (.call .carry) ∧ testHolds (fl 0 0 0 1) .carry = true ∧
    testHolds (fl 0 0 0 0) .carry = false ∧
    ∃ p : State, p = { memWrite (memWrite st (st.sp - 1) (hi8 (st.pc + 3))) (st.sp - 2) (lo8 (st.pc + 3)) with
      sp := st.sp - 2 } := ⟨rfl, rfl, rfl, _, rfl⟩
theorem witness_ReturnTakenAndNotTaken :
    Instr.retZ.row = .descriptor (.ret .zero) ∧ testHolds (fl 1 0 0 0) .zero = true ∧
    testHolds (fl 0 0 0 0) .zero = false := by decide
/-- Also the inner hypothesis: some function gives the bytes seen after the push, here with sp three above pc. -/
theorem witness_CallReadsTargetAfterPush :
    Instr.call.row = .descriptor (.call .always) ∧ testHolds st.f .always = true ∧
    ∃ seen : Word → Byte, ∀ a, seen a = if a = st.sp - 2 then lo8 (st.pc + 3)
      else if a = st.sp - 1 then hi8 (st.pc + 3) else memRead st a := ⟨rfl, rfl, _, fun _ => rfl⟩
/-- The state right after the CALL is one that meets the inner hypotheses. -/
theorem witness_CallThenReturnResumes :
    Instr.call.row = .descriptor (.call .always) ∧ Instr.ret.row = .descriptor (.ret .always) ∧
    testHolds st.f .always = true ∧ ∃ t u, exec .call st = .next t ∧ u.sp = t.sp ∧
      memRead u t.sp = memRead t t.sp ∧ memRead u (t.sp + 1) = memRead t (t.sp + 1) ∧ testHolds u.f .always = true :=
  ⟨rfl, rfl, rfl, _, _, rfl, rfl, rfl, rfl, rfl⟩
theorem witness_PushStoresPairBelowStackPointer : Instr.pushAf.row = .descriptor (.push .af) := rfl
theorem witness_PopLoadsPairFromStack :
    Instr.popAf.row = .descriptor (.pop .af) ∧ ∃ lo hi, lo = memRead st st.sp ∧ hi = memRead st (st.sp + 1) :=
  ⟨rfl, _, _, rfl, rfl⟩
theorem witness_PushThenPopRestores :
    Instr.pushAf.row = .descriptor (.push .af) ∧ Instr.popAf.row = .descriptor (.pop .af) := ⟨rfl, rfl⟩
theorem witness_ZeroMemoryRunsAsNops :
    State.reset.fault = none ∧ State.reset.halted = false ∧ ∀ a, memRead State.reset a = 0 := by
  refine ⟨rfl, rfl, fun a => ?_⟩
  unfold memRead; split <;> rfl
/-- A one-byte instruction, and the prefixed space. -/
theorem witness_StepRunsTheInstructionAtPc :
    let s := storeBytes st 0x1000 [0x80]
    let p := storeBytes st 0x1000 [0xCB, 0x37]
    s.fault = none ∧ s.halted = false ∧ decodeBytes [memRead s s.pc, memRead s (s.pc + 1)] = .ok (.addAB, [0]) ∧
    p.fault = none ∧ p.halted = false ∧
    decodeBytes [memRead p p.pc, memRead p (p.pc + 1)] = .ok (.prefixedDecodeMiss 0x37, []) := by decide
/-- Each clause: a recorded condition, HALTED, a miss, an unimplemented and an executed descriptor. -/
theorem witness_StepFollowsThePseudocode :
    { st with fault := some (.unknownOpcode 0 true) }.fault = some (.unknownOpcode 0 true) ∧
    { st with halted := true }.halted = true ∧ st.fault = none ∧ st.halted = false ∧
    decode 0x76 false = none ∧ decode 0x37 true = none ∧
    (decode 0x07 false = some .rlca ∧ Instr.rlca.row = .descriptor .rlca ∧ Descriptor.rlca.unimplemented = true) ∧
    (decode 0x00 false = some .nop ∧ Instr.nop.row = .descriptor .nop ∧ Descriptor.nop.unimplemented = false) := by
  decide
theorem witness_HaltedStepChangesNothing :
    { st with halted := true }.fault = none ∧ { st with halted := true }.halted = true := by decide
theorem witness_RecordedConditionEndsTheRun :
    (∃ t, step st = .next t) ∧
    { st with fault := some (.unimplementedInstruction .rla) }.fault = some (.unimplementedInstruction .rla) :=
  ⟨⟨_, rfl⟩, rfl⟩
theorem witness_RunningStepEndsInOneOfThreeWays : st.fault = none ∧ st.halted = false := by decide
theorem witness_FatalStepWritesOnlyTheCondition :
    ∃ t, step (memWrite st 0x1000 0x07) = .next t ∧ t.fault = some (.unimplementedInstruction .rlca) :=
  ⟨_, rfl, rfl⟩
/-- Both clauses: the first and the last listed byte, and the 0xCB byte. -/
theorem witness_UnmappedByteRaisesUnknownOpcode :
    memRead (memWrite st 0x1000 0x10) st.pc ∈ missBytes ∧ memRead (memWrite st 0x1000 0xFF) st.pc ∈ missBytes ∧
    memRead (memWrite st 0x1000 0xCB) st.pc = 0xCB ∧ (memWrite st 0x1000 0xCB).fault = none ∧
    (memWrite st 0x1000 0xCB).halted = false := by decide
theorem witness_NothingWritesTheHaltedFlag :
    (∃ t, exec .popAf st = .next t) ∧ (∃ t, step st = .next t) ∧
    (st.fault = none ∧ st.halted = false ∧ ∃ i, decode (fetch st).1 (fetch st).2 = some i) ∧
    { st with halted := true }.fault = none ∧ { st with halted := true }.halted = true :=
  ⟨⟨_, rfl⟩, ⟨_, rfl⟩, ⟨rfl, rfl, _, rfl⟩, rfl, rfl⟩
/-- The first and the last address of the window. -/
theorem witness_CodeExecutesFromTheWindow :
    let s := { st with pc := 0x8000 }
    let e := { st with pc := 0x9FFF, vram := [(0x1FFF, 0x3C)] }
    s.fault = none ∧ s.halted = false ∧ 0x8000 ≤ s.pc.toNat ∧ s.pc.toNat ≤ 0x9FFF ∧
    0x00 = s.vram.read (s.pc.toNat - 0x8000) ∧ (0x00 : Byte) ≠ 0xCB ∧
    0x8000 ≤ e.pc.toNat ∧ e.pc.toNat ≤ 0x9FFF ∧ 0x3C = e.vram.read (e.pc.toNat - 0x8000) ∧ (0x3C : Byte) ≠ 0xCB := by
  decide
theorem witness_OnlyNamedRegistersAreWritten :
    Instr.incBc.row = .descriptor (.incRr .bc) ∧ (∃ t, exec .incBc st = .next t) ∧
    Reg8.d ∉ writtenRegisters (.incRr .bc) ∧
    (Instr.decodeMiss 0x76).row = .miss 0x76 false ∧ ∃ t, exec (.decodeMiss 0x76) st = .next t :=
  ⟨rfl, ⟨_, rfl⟩, by decide, rfl, _, rfl⟩
theorem witness_OnlyNamedFlagsAreWritten :
    Instr.popBc.row = .descriptor (.pop .bc) ∧ (∃ t, exec .popBc st = .next t) ∧ writesZnh (.pop .bc) = false ∧
    Instr.decB.row = .descriptor (.dec .b) ∧ (∃ t, exec .decB st = .next t) ∧ writesCarry (.dec .b) = false ∧
    (Instr.prefixedDecodeMiss 0).row = .miss 0 true ∧ ∃ t, exec (.prefixedDecodeMiss 0) st = .next t :=
  ⟨rfl, ⟨_, rfl⟩, rfl, rfl, ⟨_, rfl⟩, rfl, rfl, _, rfl⟩
theorem witness_OnlyStackInstructionsWriteSp :
    Instr.retC.row = .descriptor (.ret .carry) ∧ (∃ t, exec .retC st = .next t) ∧ writesSp st (.ret .carry) = false ∧
    (Instr.decodeMiss 0x76).row = .miss 0x76 false ∧ ∃ t, exec (.decodeMiss 0x76) st = .next t :=
  ⟨rfl, ⟨_, rfl⟩, rfl, rfl, _, rfl⟩
theorem witness_OnlyPushAfReadsSubtractAndHalfCarry :
    Instr.decA.row ≠ .descriptor (.push .af) ∧ ∃ t, exec .decA st = .next t := ⟨by decide, _, rfl⟩
theorem witness_PcAdvancesByTheFormat :
    Instr.incIndHl.row = .descriptor .incMem ∧ Descriptor.incMem.pcAdvance = some 3 ∧
    transfersControl st .incMem = false ∧ Instr.retZ.row = .descriptor (.ret .zero) ∧
    Descriptor.pcAdvance (.ret .zero) = some 1 ∧ transfersControl st (.ret .zero) = false ∧
    Instr.rla.row = .descriptor .rla ∧ Descriptor.rla.pcAdvance = none := by decide
/-- The last address before the window, its first and last, and the first after it. -/
theorem witness_BusSplitsAtTheWindow :
    (0x8000 ≤ (0x8000 : Word).toNat ∧ (0x8000 : Word).toNat ≤ 0x9FFF) ∧
    (0x8000 ≤ (0x9FFF : Word).toNat ∧ (0x9FFF : Word).toNat ≤ 0x9FFF) ∧
    ¬(0x8000 ≤ (0x7FFF : Word).toNat ∧ (0x7FFF : Word).toNat ≤ 0x9FFF) ∧
    ¬(0x8000 ≤ (0xA000 : Word).toNat ∧ (0xA000 : Word).toNat ≤ 0x9FFF) := by decide
theorem witness_OnlyStoredBytesChange :
    Instr.pushBc.row = .descriptor (.push .bc) ∧ (∃ t, exec .pushBc st = .next t) ∧
    st.sp ∉ storedAddresses st (.push .bc) ∧ Instr.addAB.row = .descriptor (.add .b) ∧
    (∃ t, exec .addAB st = .next t) ∧ st.sp ∉ storedAddresses st (.add .b) ∧
    (Instr.decodeMiss 0x76).row = .miss 0x76 false ∧ ∃ t, exec (.decodeMiss 0x76) st = .next t :=
  ⟨rfl, ⟨_, rfl⟩, by decide, rfl, ⟨_, rfl⟩, by decide, rfl, _, rfl⟩
/-- V55's start state. -/
theorem witness_StoreIsSeenByTheNextFetch :
    let s := { st with h := 0x10, l := 0x01, a := 0x3C }
    Instr.ldIndHlA.row = .descriptor (.ldByte .memHl (.reg .a)) ∧ s.fault = none ∧ s.halted = false ∧
    readPair s .hl = s.pc + 1 ∧ readReg s .a ≠ 0xCB := by decide
/-- Each clause: ADD HL, INC rr, DEC rr with one skip byte, INC (HL) and DEC (HL) with the second of two. -/
theorem witness_SkipBytesAreNeverRead :
    Instr.addHlBc.row = .descriptor (.addHl .bc) ∧ Instr.incDe.row = .descriptor (.incRr .de) ∧
    Instr.decSp.row = .descriptor (.decRr .sp) ∧ Instr.incIndHl.row = .descriptor .incMem ∧
    Instr.decIndHl.row = .descriptor .decMem ∧ readPair st .hl ≠ st.pc + 1 ∧ readPair st .hl ≠ st.pc + 2 := by decide
theorem witness_StepKeepsMemoriesCanonical : (memWrite st 0x1000 0xC5).wf = true ∧
    ∃ t, step (memWrite st 0x1000 0xC5) = .next t := ⟨by decide, _, rfl⟩
theorem witness_RunsKeepTheInvariant :
    ∃ t, st.wf = true ∧ Sys2Proof.core.run 2 st = .next t ∧ SafeRun 2 st t :=
  ⟨_, by decide, rfl, rfl, rfl⟩
theorem witness_ConstructionGivesTheParameters :
    ∃ s, s = State.construct { Config.zeroParams with resetPc := 0x0100 } (some [0x31]) [0xC3] := ⟨_, rfl⟩
/-- Each clause with a field, at its largest code. -/
theorem witness_OpcodePatternsDecode :
    Instr.addAA.row = .descriptor (.add .a) ∧ Instr.addHlSp.row = .descriptor (.addHl .sp) ∧
    Instr.incA.row = .descriptor (.inc .a) ∧ Instr.decA.row = .descriptor (.dec .a) ∧
    Instr.incSp.row = .descriptor (.incRr .sp) ∧ Instr.decSp.row = .descriptor (.decRr .sp) ∧
    Instr.ldAA.row = .descriptor (.ldByte (.reg .a) (.reg .a)) ∧ Instr.ldAIndHl.row = .descriptor (.ldByte (.reg .a) .memHl) ∧
    Instr.ldIndHlA.row = .descriptor (.ldByte .memHl (.reg .a)) ∧ Instr.ldAD8.row = .descriptor (.ldByte (.reg .a) .imm) ∧
    Instr.ldSpD16.row = .descriptor (.ldWord .sp) ∧ Instr.ldIndA16A.row = .descriptor (.ldIndirectFromA .a16) ∧
    Instr.ldAIndA16.row = .descriptor (.ldAFromIndirect .a16) ∧ Instr.jpC.row = .descriptor (.jp .carry) ∧
    Instr.callC.row = .descriptor (.call .carry) ∧ Instr.retC.row = .descriptor (.ret .carry) ∧
    Instr.pushAf.row = .descriptor (.push .af) ∧ Instr.popAf.row = .descriptor (.pop .af) := by decide
/-- The clauses without a field. -/
theorem witness_OpcodePatternsDecode_single :
    Instr.nop.row = .descriptor .nop ∧ Instr.incIndHl.row = .descriptor .incMem ∧
    Instr.decIndHl.row = .descriptor .decMem ∧ Instr.ldIndHlD8.row = .descriptor (.ldByte .memHl .imm) ∧
    Instr.ldIndA16Sp.row = .descriptor .ldIndirectFromSp ∧ Instr.rlca.row = .descriptor .rlca ∧
    Instr.rrca.row = .descriptor .rrca ∧ Instr.rla.row = .descriptor .rla ∧ Instr.rra.row = .descriptor .rra := by decide
theorem witness_DecodingAnEncodingGivesTheInstruction :
    Instr.ldAD8.wf = true ∧ (Instr.decodeMiss 0x10).wf = true ∧ (Instr.prefixedDecodeMiss 0xCB).wf = true := by decide
theorem witness_EncodingADecodingGivesTheBytes :
    decodeBytes [0x3E, 0x99] = .ok (.ldAD8, [0x99]) ∧ decodeBytes [0xCB, 0x37] = .ok (.prefixedDecodeMiss 0x37, []) := by
  decide
theorem witness_DecodedDescriptorsAreExactlyTheListed :
    (Descriptor.incRr .bc).wf = true ∧ Instr.incBc.row = .descriptor (.incRr .bc) ∧ decode 0x03 false = some .incBc := by
  decide

end Sys2Proof.Tests
end

section
/-!
PROOFS. The state record (10_state.md): the flags byte, the pairs, construction, the halted flag and the recorded
condition.
-/

namespace Sys2Proof.Proofs
open Sys2Proof.Machine Sys2Proof.Laws

/-! ### The flags byte (R23 to R25) -/

/-- No flag stands in bits 3 to 0 (R25). -/
@[simp] theorem toByte_and_lowNibble (f : Flags) : f.toByte &&& 0x0F = 0 := by
  obtain ⟨z, n, h, c⟩ := f
  revert z n h c
  decide

/-- Each flag is one masked bit of the byte it was read from, and the four masks together are 0xF0. -/
@[simp] theorem toByte_fromByte (v : Byte) : (Flags.fromByte v).toByte = v &&& 0xF0 := by
  have masked (k : Nat) : (if v.getLsbD k then BitVec.twoPow 8 k else 0) = v &&& BitVec.twoPow 8 k :=
    (BitVec.and_twoPow v k).symm
  calc (Flags.fromByte v).toByte
      = (v &&& BitVec.twoPow 8 7) ||| (v &&& BitVec.twoPow 8 6) ||| (v &&& BitVec.twoPow 8 5) |||
          (v &&& BitVec.twoPow 8 4) := by simp only [← masked]; rfl
    _ = v &&& (BitVec.twoPow 8 7 ||| BitVec.twoPow 8 6 ||| BitVec.twoPow 8 5 ||| BitVec.twoPow 8 4) := by
          simp only [BitVec.and_or_distrib_left]
    _ = v &&& 0xF0 := rfl

/-- Settles O39: the layout is the definition's, the low nibble and the round trip are the two lemmas above. -/
theorem flagsByteLayoutAndRoundTrip : Obligations.FlagsByteLayoutAndRoundTrip :=
  ⟨fun _ => rfl, toByte_and_lowNibble, fun _ => rfl, toByte_fromByte⟩

/-! ### The pairs (R27 to R29) -/

theorem hi8_and (v w : Word) : hi8 (v &&& w) = hi8 v &&& hi8 w := by
  simp only [hi8, BitVec.ushiftRight_and_distrib, BitVec.setWidth_and]

theorem lo8_and (v w : Word) : lo8 (v &&& w) = lo8 v &&& lo8 w := BitVec.setWidth_and

/-- Masking the low byte masks the word. -/
theorem join_hi8_and_lo8 (v : Word) (mask : Byte) : join (hi8 v) (lo8 v &&& mask) = v &&& join 0xFF mask := by
  rw [← join_hi8_lo8 (v &&& join 0xFF mask), hi8_and, lo8_and, hi8_join, lo8_join]
  congr 1
  exact BitVec.and_allOnes.symm

theorem readPair_writePair_of_ne_af {p : Pair} (hp : p ≠ .af) (s : State) (v : Word) :
    readPair (writePair s p v) p = v := by
  cases p with
  | af => exact absurd rfl hp
  | bc | de | hl => exact join_hi8_lo8 v

/-- A written AF loses the low nibble of its flags byte. -/
theorem readPair_writePair_af (s : State) (v : Word) : readPair (writePair s .af v) .af = v &&& 0xFFF0 := by
  calc readPair (writePair s .af v) .af
      = join (hi8 v) (Flags.fromByte (lo8 v)).toByte := rfl
    _ = join (hi8 v) (lo8 v &&& 0xF0) := by rw [toByte_fromByte]
    _ = v &&& 0xFFF0 := join_hi8_and_lo8 v 0xF0

/-- Settles O40: BC, DE and HL by joining the halves, AF by the round trip of the flags byte. -/
theorem pairRoundTrip : Obligations.PairRoundTrip := fun s v =>
  ⟨readPair_writePair_of_ne_af (by decide) s v, readPair_writePair_of_ne_af (by decide) s v,
    readPair_writePair_of_ne_af (by decide) s v, readPair_writePair_af s v, rfl, toByte_fromByte (lo8 v)⟩

/-! ### What a step that answers a next state did (R38, R118) -/

/-- A step that answers a next state began with no condition recorded; it stood still in HALTED and executed the
fetched row in RUNNING. -/
theorem step_next_cases {s t : State} (h : step s = .next t) :
    s.fault = none ∧
      (s.halted = true ∧ t = s ∨ s.halted = false ∧ exec (rowOf (fetch s).1 (fetch s).2) s = .next t) := by
  cases hf : s.fault with
  | some condition =>
    rw [step_of_fault hf] at h
    cases h
  | none =>
    refine ⟨rfl, ?_⟩
    cases hh : s.halted with
    | true =>
      rw [step_of_halted hf hh] at h
      cases h
      exact .inl ⟨rfl, rfl⟩
    | false =>
      rw [step_of_running hf hh] at h
      exact .inr ⟨rfl, h⟩

/-- A run whose first step faults ends there, however long it was to be. -/
theorem run_succ_of_step_fault {M : Host.Core} {s : M.State} {r : M.Fault} (h : M.step s = .fault r) (k : Nat) :
    M.run (k + 1) s = .fault r := by
  simp only [Host.Core.run, h]

/-- Settles O33, by what a step that answers a next state did and by the first step of a run. -/
theorem recordedConditionEndsTheRun : Obligations.RecordedConditionEndsTheRun :=
  ⟨fun _ _ h => (step_next_cases h).1,
    fun _ _ k hf => ⟨step_of_fault hf, run_succ_of_step_fault (M := core) (step_of_fault hf) k⟩⟩

/-! ### The halted flag (R33) -/

theorem rowOf_of_decode {byte : Byte} {prefixed : Bool} {i : Instr} (h : decode byte prefixed = some i) :
    rowOf byte prefixed = i := by
  rw [rowOf, h, Option.getD_some]

@[simp] theorem pop16_halted (s : State) : (pop16 s).2.halted = s.halted := by rw [pop16_state]

section
variable {s t : State}

theorem halted_of_commit {u : State} {nextPc : Word} (h : commit u nextPc = .next t) : t.halted = u.halted := by
  cases h
  rfl

theorem halted_of_raiseFatal {condition : Fault} (h : raiseFatal s condition = .next t) : t.halted = s.halted := by
  cases h
  rfl

theorem halted_of_jump {test : Test} (h : jump test s = .next t) : t.halted = s.halted := by
  unfold jump at h
  split at h
  · exact halted_of_commit h
  · exact halted_of_commit h

theorem halted_of_call {test : Test} (h : call test s = .next t) : t.halted = s.halted := by
  unfold call at h
  split at h
  · exact (halted_of_commit h).trans (push16_halted _ _)
  · exact halted_of_commit h

theorem halted_of_ret {test : Test} (h : ret test s = .next t) : t.halted = s.halted := by
  unfold ret at h
  split at h
  · exact (halted_of_commit h).trans (pop16_halted s)
  · exact halted_of_commit h

/-- No descriptor writes the halted flag: its operation commits a state whose updates leave it, or raises. -/
theorem halted_of_execute {d : Descriptor} (h : execute d s = .next t) : t.halted = s.halted := by
  cases d with
  | nop => exact halted_of_commit h
  | add => exact (halted_of_commit h).trans rfl
  | addHl => exact (halted_of_commit h).trans (writePair_halted _ _ _)
  | inc | dec => exact (halted_of_commit h).trans (writeReg_halted _ _ _)
  | incRr | decRr => exact (halted_of_commit h).trans (writeRr_halted _ _ _)
  | incMem | decMem => exact (halted_of_commit h).trans (memWrite_halted _ _ _)
  | ldByte => exact (halted_of_commit h).trans (writeTarget_halted _ _ _)
  | jp => exact halted_of_jump h
  | call => exact halted_of_call h
  | ret => exact halted_of_ret h
  | push => exact (halted_of_commit h).trans (push16_halted _ _)
  | pop => exact (halted_of_commit h).trans ((writePair_halted _ _ _).trans (pop16_halted s))
  | ldWord | ldIndirectFromA | ldAFromIndirect | ldIndirectFromSp | rlca | rrca | rla | rra =>
    exact halted_of_raiseFatal h

theorem halted_of_exec {i : Instr} (h : exec i s = .next t) : t.halted = s.halted := by
  cases hrow : i.row with
  | descriptor d => exact halted_of_execute (exec_of_descriptor hrow s ▸ h)
  | miss byte prefixed => exact halted_of_raiseFatal (exec_of_miss hrow s ▸ h)

theorem halted_of_step (h : step s = .next t) : t.halted = s.halted := by
  obtain ⟨-, ⟨-, rfl⟩ | ⟨-, hexec⟩⟩ := step_next_cases h
  · rfl
  · exact halted_of_exec hexec

end

/-- Settles O37, by the frame of `execute` and the three cases of the step. -/
theorem nothingWritesTheHaltedFlag : Obligations.NothingWritesTheHaltedFlag := by
  refine ⟨fun _ _ _ => rfl, fun _ _ _ => halted_of_exec, fun _ _ => halted_of_step, ?_, fun _ => step_of_halted⟩
  intro i s hf hh hdecode
  rw [step_of_running hf hh, rowOf_of_decode hdecode]

/-! ### Construction (R39) -/

/-- Settles O53: `State.construct` copies each parameter into its field and ignores both images. -/
theorem constructionGivesTheParameters : Obligations.ConstructionGivesTheParameters := by
  rintro p boot cart s rfl
  exact ⟨rfl, rfl, rfl, rfl, rfl, rfl, rfl, rfl, rfl, rfl, rfl, rfl, rfl, rfl⟩

end Sys2Proof.Proofs
end

section
/-!
PROOFS. Memory (20_memory.md): the bus and its window, the stack's bytes, the frame of every instruction's stores, and
what a store or a push is seen by.
-/

namespace Sys2Proof.Proofs
open Sys2Proof.Machine Sys2Proof.Laws

/-! ### The window (R53, R54) -/

theorem inWindow_iff (a : Word) : inWindow a = true ↔ 0x8000 ≤ a.toNat ∧ a.toNat ≤ 0x9FFF := decide_eq_true_iff

section
variable {a : Word} (s : State) (v : Byte)

theorem memRead_of_inWindow (h : inWindow a = true) : memRead s a = s.vram.read (vramOffset a) := if_pos h

theorem memWrite_of_inWindow (h : inWindow a = true) :
    memWrite s a v = { s with vram := s.vram.write (vramOffset a) v } := if_pos h

theorem memRead_of_not_inWindow (h : ¬inWindow a = true) : memRead s a = s.mem.read a.toNat := if_neg h

theorem memWrite_of_not_inWindow (h : ¬inWindow a = true) :
    memWrite s a v = { s with mem := s.mem.write a.toNat v } := if_neg h

end

/-- Settles O46, by the bus on each side of the window's bounds. -/
theorem busSplitsAtTheWindow : Obligations.BusSplitsAtTheWindow := by
  intro s a v
  rw [← inWindow_iff]
  exact ⟨fun h => ⟨memRead_of_inWindow s h, memWrite_of_inWindow s v h⟩,
    fun h => ⟨memRead_of_not_inWindow s h, memWrite_of_not_inWindow s v h⟩⟩

/-! ### Reads after writes (R55, R68) -/

@[simp] theorem memRead_memWrite_self (s : State) (a : Word) (v : Byte) : memRead (memWrite s a v) a = v := by
  rw [memRead_memWrite, if_pos rfl]

theorem memRead_memWrite_of_ne {a b : Word} (h : b ≠ a) (s : State) (v : Byte) :
    memRead (memWrite s a v) b = memRead s b := by
  rw [memRead_memWrite, if_neg h]

/-- Settles O47, by induction on the writes from the last one: it is what a read of its address gives, and a read of
another address does not see it. -/
theorem readReturnsTheLatestWrite : Obligations.ReadReturnsTheLatestWrite := by
  intro s writes a
  induction writes using List.reverseRecOn with
  | nil => rfl
  | append_singleton earlier last ih =>
    rw [List.foldl_concat, List.reverse_concat, List.find?_cons, memRead_memWrite, ih]
    by_cases h : a = last.1
    · subst h
      simp
    · have hne : (last.1 == a) = false := beq_false_of_ne (Ne.symm h)
      rw [if_neg h, hne]

/-! ### The stack's bytes (R61, R210) -/

theorem sub_one_ne_sub_two (x : Word) : x - 1 ≠ x - 2 := by bv_omega

theorem memRead_push16_low (s : State) (v : Word) : memRead (push16 s v) (s.sp - 2) = lo8 v := by
  rw [memRead_push16, if_pos rfl]

theorem memRead_push16_high (s : State) (v : Word) : memRead (push16 s v) (s.sp - 1) = hi8 v := by
  rw [memRead_push16, if_neg (sub_one_ne_sub_two s.sp), if_pos rfl]

theorem memRead_push16_of_notMem {s : State} {a : Word} (h : a ∉ [s.sp - 1, s.sp - 2]) (v : Word) :
    memRead (push16 s v) a = memRead s a := by
  obtain ⟨hhigh, hlow⟩ : a ≠ s.sp - 1 ∧ a ≠ s.sp - 2 := by simpa using h
  rw [memRead_push16, if_neg hlow, if_neg hhigh]

/-- A pushed word is the little-endian word at the new `sp`. -/
theorem read16_push16_sp (s : State) (v : Word) : read16 (push16 s v) (push16 s v).sp = v := by
  have hhigh : s.sp - 2 + 1 = s.sp - 1 := by bv_omega
  rw [push16_sp, read16, hhigh, memRead_push16_high, memRead_push16_low, join_hi8_lo8]

/-- Settles O25, by the two bytes of a push and the value of a pop. -/
theorem pushedWordStandsLittleEndian : Obligations.PushedWordStandsLittleEndian := fun s v =>
  ⟨memRead_push16_high s v, memRead_push16_low s v, pop16_value s, read16_push16_sp s v⟩

/-! ### Every byte outside the stored addresses (R55, R64) -/

section
variable {s t : State} {a : Word}

theorem memRead_of_commit {u : State} {nextPc : Word} (h : commit u nextPc = .next t) (a : Word) :
    memRead t a = memRead u a := by
  cases h
  rfl

theorem memRead_of_raiseFatal {condition : Fault} (h : raiseFatal s condition = .next t) (a : Word) :
    memRead t a = memRead s a := by
  cases h
  rfl

theorem memRead_of_jump {test : Test} (h : jump test s = .next t) (a : Word) : memRead t a = memRead s a := by
  unfold jump at h
  split at h
  · exact memRead_of_commit h a
  · exact memRead_of_commit h a

theorem memRead_of_ret {test : Test} (h : ret test s = .next t) (a : Word) : memRead t a = memRead s a := by
  unfold ret at h
  split at h
  · exact memRead_of_commit h a
  · exact memRead_of_commit h a

theorem storedAddresses_call_taken {test : Test} (h : testHolds s.f test = true) :
    storedAddresses s (.call test) = [s.sp - 1, s.sp - 2] := if_pos h

/-- Only a taken CALL stores, and then what its push stores. -/
theorem memRead_of_call {test : Test} (h : call test s = .next t) (ha : a ∉ storedAddresses s (.call test)) :
    memRead t a = memRead s a := by
  unfold call at h
  split at h
  next htaken =>
    rw [storedAddresses_call_taken htaken] at ha
    exact (memRead_of_commit h a).trans (memRead_push16_of_notMem ha _)
  next => exact memRead_of_commit h a

/-- LD with a memory target stores at HL, with a register target nowhere. -/
theorem memRead_writeTarget {target : Target} {source : Source}
    (ha : a ∉ storedAddresses s (.ldByte target source)) (v : Byte) :
    memRead (writeTarget s target v) a = memRead s a := by
  cases target with
  | reg r => exact memRead_congr (writeReg_mem s r v) (writeReg_vram s r v) a
  | memHl => exact memRead_memWrite_of_ne (List.ne_of_not_mem_cons ha) s v

/-- No descriptor stores outside its stored addresses: its operation commits a state that writes registers, HL's byte
or a pushed word, or raises. -/
theorem memRead_of_execute {d : Descriptor} (h : execute d s = .next t) (ha : a ∉ storedAddresses s d) :
    memRead t a = memRead s a := by
  cases d with
  | nop | add => exact memRead_of_commit h a
  | addHl => exact (memRead_of_commit h a).trans (memRead_congr (writePair_mem _ _ _) (writePair_vram _ _ _) a)
  | inc r | dec r => exact (memRead_of_commit h a).trans (memRead_congr (writeReg_mem s r _) (writeReg_vram s r _) a)
  | incRr rr | decRr rr =>
    exact (memRead_of_commit h a).trans (memRead_congr (writeRr_mem s rr _) (writeRr_vram s rr _) a)
  | incMem | decMem => exact (memRead_of_commit h a).trans (memRead_memWrite_of_ne (List.ne_of_not_mem_cons ha) s _)
  | ldByte => exact (memRead_of_commit h a).trans (memRead_writeTarget ha _)
  | jp => exact memRead_of_jump h a
  | call => exact memRead_of_call h ha
  | ret => exact memRead_of_ret h a
  | push => exact (memRead_of_commit h a).trans (memRead_push16_of_notMem ha _)
  | pop qq => exact (memRead_of_commit h a).trans (memRead_congr (writePair_mem _ qq _) (writePair_vram _ qq _) a)
  | ldWord | ldIndirectFromA | ldAFromIndirect | ldIndirectFromSp | rlca | rrca | rla | rra =>
    exact memRead_of_raiseFatal h a

end

/-- Settles O48, by the memory frame of `execute` and of the miss row. -/
theorem onlyStoredBytesChange : Obligations.OnlyStoredBytesChange :=
  ⟨fun _ _ s _ hrow hexec _ ha => memRead_of_execute (exec_of_descriptor hrow s ▸ hexec) ha,
    fun _ _ _ s _ hrow hexec => memRead_of_raiseFatal (exec_of_miss hrow s ▸ hexec)⟩

/-! ### A store seen by the next fetch (R72) -/

/-- A byte at pc other than 0xCB is fetched as the byte to decode (R113). -/
theorem fetch_of_memRead_pc {s : State} {byte : Byte} (hread : memRead s s.pc = byte) (hne : byte ≠ Config.cbByte) :
    fetch s = (byte, false) := by
  subst hread
  exact if_neg hne

/-- LD (HL),r (R174). -/
theorem exec_storeReg {i : Instr} {r : Reg8} (h : i.row = .descriptor (.ldByte .memHl (.reg r))) (s : State) :
    exec i s = .next { memWrite s (readPair s .hl) (readReg s r) with pc := s.pc + 1 } :=
  exec_of_descriptor h s

/-- Settles O49: the state after the store reads r at its pc and is still RUNNING with no condition. -/
theorem storeIsSeenByTheNextFetch : Obligations.StoreIsSeenByTheNextFetch := by
  intro i r s hrow hfault hhalted hhl hne
  rw [exec_storeReg hrow, hhl]
  refine ⟨_, rfl, ?_⟩
  generalize ht : { memWrite s (s.pc + 1) (readReg s r) with pc := s.pc + 1 } = t
  have hread : memRead t t.pc = readReg s r := by
    subst ht
    exact memRead_memWrite_self s (s.pc + 1) (readReg s r)
  have hfetch : fetch t = (readReg s r, false) := fetch_of_memRead_pc hread hne
  have hf : t.fault = none := by simpa [← ht] using hfault
  have hh : t.halted = false := by simpa [← ht] using hhalted
  exact ⟨hfetch, by rw [step_of_running hf hh, hfetch]⟩

/-! ### The target of a taken CALL (R73) -/

/-- A taken CALL pushes the return address and reads its target from the memory after the push (R192). -/
theorem exec_call_taken {i : Instr} {test : Test} {s : State} (hrow : i.row = .descriptor (.call test))
    (htaken : testHolds s.f test = true) :
    exec i s = .next { push16 s (s.pc + 3) with pc := read16 (push16 s (s.pc + 3)) (s.pc + 1) } :=
  (exec_of_descriptor hrow s).trans (if_pos htaken)

/-- Settles O20: `seen` is what the memory after the push reads. -/
theorem callReadsTargetAfterPush : Obligations.CallReadsTargetAfterPush := by
  intro i test s hrow htaken
  refine ⟨_, exec_call_taken hrow htaken, fun seen hseen => ?_⟩
  have hpushed (a : Word) : memRead (push16 s (s.pc + 3)) a = seen a := by rw [memRead_push16, hseen]
  have hnext : s.pc + 1 + 1 = s.pc + 2 := BitVec.add_assoc s.pc 1 1
  calc read16 (push16 s (s.pc + 3)) (s.pc + 1)
      = join (seen (s.pc + 1 + 1)) (seen (s.pc + 1)) := by rw [read16, hpushed, hpushed]
    _ = join (seen (s.pc + 2)) (seen (s.pc + 1)) := by rw [hnext]

end Sys2Proof.Proofs
end

section
/-!
PROOFS. Encoding (30_encoding.md): the decoder's table against the opcode patterns, what encoding and decoding do to
each other, the pc advance of each format, and the skip bytes.
-/

namespace Sys2Proof.Proofs
open Sys2Proof.Machine Sys2Proof.Laws

/-! ### The bytes with no descriptor (R88, R91, R92) -/

/-- The prefixed space is empty (R88). -/
@[simp] theorem decode_prefixed (byte : Byte) : decode byte true = none := by
  have hrow : byte.toNat / 16 < 16 := Nat.div_lt_of_lt_mul byte.isLt
  have hcol : byte.toNat % 16 < 16 := Nat.mod_lt _ (by decide)
  simp only [decode, if_true, tableEntry, prefixedTable, List.getElem?_replicate_of_lt hrow,
    List.getElem?_replicate_of_lt hcol, Option.bind_some, Option.join_some]

/-- 0xCB marks the prefixed space and has no descriptor of its own (R92). -/
theorem decode_cbByte : decode Config.cbByte false = none := rfl

/-- Every byte once, from 0x00 to 0xFF. -/
def allBytes : List Byte := (List.range 256).map (BitVec.ofNat 8)

theorem mem_allBytes (byte : Byte) : byte ∈ allBytes :=
  List.mem_map.2 ⟨byte.toNat, List.mem_range.2 byte.isLt, by simp⟩

/-- R91's list is what a walk through the unprefixed table finds empty, 0xCB apart. -/
theorem missBytes_eq_filter :
    missBytes = allBytes.filter fun byte => (decode byte false).isNone && byte != Config.cbByte := by
  decide

theorem mem_missBytes_iff (byte : Byte) : byte ∈ missBytes ↔ decode byte false = none ∧ byte ≠ Config.cbByte := by
  rw [missBytes_eq_filter]
  simp [mem_allBytes]

theorem decode_unprefixed_eq_none_iff (byte : Byte) :
    decode byte false = none ↔ byte ∈ missBytes ∨ byte = Config.cbByte := by
  rw [mem_missBytes_iff]
  by_cases h : byte = Config.cbByte
  · simp [h, decode_cbByte]
  · simp [h]

/-- Settles O57: the prefixed table is `none` throughout, and R91's list is read off the unprefixed one. -/
theorem decodeMissesAreExactlyTheListed : Obligations.DecodeMissesAreExactlyTheListed :=
  ⟨rfl, decode_prefixed, decode_unprefixed_eq_none_iff⟩

/-! ### The table's entries against the opcode patterns (R89, R90) -/

/-- The opcode pattern of an instruction's descriptor leads to that instruction in R89's map. -/
theorem decode_opcode {i : Instr} {d : Descriptor} (h : i.row = .descriptor d) : decode d.opcode false = some i := by
  cases i with
  | decodeMiss | prefixedDecodeMiss => cases h
  | _ => cases h; rfl

theorem opcode_ne_cbByte {i : Instr} {d : Descriptor} (h : i.row = .descriptor d) : d.opcode ≠ Config.cbByte := by
  intro hcb
  have hsome := decode_opcode h
  rw [hcb, decode_cbByte] at hsome
  cases hsome

theorem wf_of_row {i : Instr} {d : Descriptor} (h : i.row = .descriptor d) : d.wf = true := by
  cases i with
  | decodeMiss | prefixedDecodeMiss => cases h
  | _ => cases h; rfl

/-- Every listed variant has an instruction, at its own opcode. -/
theorem exists_instr_of_wf {d : Descriptor} (h : d.wf = true) :
    ∃ i, decode d.opcode false = some i ∧ i.row = .descriptor d := by
  cases d with
  | nop | incMem | decMem | ldIndirectFromSp | rlca | rrca | rla | rra => exact ⟨_, rfl, rfl⟩
  | add r | inc r | dec r => cases r <;> exact ⟨_, rfl, rfl⟩
  | addHl rr | ldWord rr => cases rr <;> exact ⟨_, rfl, rfl⟩
  | incRr rr | decRr rr =>
    cases rr with
    | hl => cases h
    | bc | de | sp => exact ⟨_, rfl, rfl⟩
  | ldByte target source =>
    cases target with
    | memHl =>
      cases source with
      | memHl => cases h
      | imm => exact ⟨_, rfl, rfl⟩
      | reg r => cases r <;> exact ⟨_, rfl, rfl⟩
    | reg r =>
      cases source with
      | memHl | imm => cases r <;> exact ⟨_, rfl, rfl⟩
      | reg r' => cases r <;> cases r' <;> exact ⟨_, rfl, rfl⟩
  | ldIndirectFromA x | ldAFromIndirect x => cases x <;> exact ⟨_, rfl, rfl⟩
  | jp test | call test | ret test => cases test <;> exact ⟨_, rfl, rfl⟩
  | push qq | pop qq => cases qq <;> exact ⟨_, rfl, rfl⟩

/-- The opcode of a row that stands for a descriptor. -/
def describedOpcode : Row → Option Byte
  | .descriptor d => some d.opcode
  | .miss _ _ => none

theorem describedOpcode_eq_some {row : Row} {byte : Byte} (h : describedOpcode row = some byte) :
    ∃ d, row = .descriptor d ∧ byte = d.opcode := by
  cases row with
  | descriptor d => exact ⟨d, rfl, (Option.some.inj h).symm⟩
  | miss => cases h

/-- Each entry of R89's map stands for a descriptor whose pattern is the entry's own byte. -/
theorem describedOpcode_of_mem_decode : ∀ byte, ∀ i ∈ decode byte false, describedOpcode i.row = some byte := by
  decide

theorem exists_descriptor_of_decode {byte : Byte} {i : Instr} (h : decode byte false = some i) :
    ∃ d, i.row = .descriptor d ∧ byte = d.opcode :=
  describedOpcode_eq_some (describedOpcode_of_mem_decode byte i h)

/-- Settles O58, by the map's entries at the patterns and the patterns at the map's entries. -/
theorem decodedDescriptorsAreExactlyTheListed : Obligations.DecodedDescriptorsAreExactlyTheListed := by
  refine ⟨fun d => ⟨fun hwf => ?_, ?_⟩, fun i d => decode_opcode, fun byte i h => ?_, fun byte i d h hrow => ?_⟩
  · exact ⟨d.opcode, exists_instr_of_wf hwf⟩
  · rintro ⟨-, i, -, hrow⟩
    exact wf_of_row hrow
  · obtain ⟨d, hrow, -⟩ := exists_descriptor_of_decode h
    exact ⟨d, hrow⟩
  · obtain ⟨d', hrow', rfl⟩ := exists_descriptor_of_decode h
    cases hrow.symm.trans hrow'
    rfl

theorem decode_of_opcode_eq {i : Instr} {d : Descriptor} {byte : Byte} (hrow : i.row = .descriptor d)
    (hopcode : d.opcode = byte) : decode byte false = some i :=
  hopcode ▸ decode_opcode hrow

/-- Settles O59: each pattern is the opcode of its descriptor. -/
theorem opcodePatternsDecode : Obligations.OpcodePatternsDecode := by
  intro i
  refine ⟨decode_opcode, fun _ => decode_opcode, fun _ => decode_opcode, fun _ => decode_opcode,
    fun _ => decode_opcode, fun _ => decode_opcode, fun _ => decode_opcode, decode_opcode, decode_opcode,
    fun _ _ => decode_opcode, fun r h => decode_of_opcode_eq h ?loadFromMemory, fun _ => decode_opcode,
    fun _ => decode_opcode, decode_opcode, fun _ => decode_opcode, fun x h => decode_of_opcode_eq h ?storeIndirect,
    fun x h => decode_of_opcode_eq h ?loadIndirect, decode_opcode, fun test h => decode_of_opcode_eq h ?jump,
    fun test h => decode_of_opcode_eq h ?call, fun test h => decode_of_opcode_eq h ?ret, fun _ => decode_opcode,
    fun _ => decode_opcode, decode_opcode, decode_opcode, decode_opcode, decode_opcode⟩
  case loadFromMemory => cases r <;> rfl
  case storeIndirect | loadIndirect => cases x <;> rfl
  case jump | call | ret => cases test <;> rfl

/-! ### Decoding an encoding (R80, R87, R94) -/

theorem decodeBytes_unprefixed {byte : Byte} (h : byte ≠ Config.cbByte) (rest : List Byte) :
    decodeBytes (byte :: rest) = .ok (rowOf byte false, rest) := if_neg h

theorem decodeBytes_prefixed (byte : Byte) (rest : List Byte) :
    decodeBytes (Config.cbByte :: byte :: rest) = .ok (rowOf byte true, rest) := rfl

theorem rowOf_of_decode_none {byte : Byte} {prefixed : Bool} (h : decode byte prefixed = none) :
    rowOf byte prefixed = missRow byte prefixed := by
  rw [rowOf, h, Option.getD_none]

theorem eq_missRow_of_row {i : Instr} {byte : Byte} {prefixed : Bool} (h : i.row = .miss byte prefixed) :
    i = missRow byte prefixed := by
  cases i with
  | decodeMiss | prefixedDecodeMiss => cases h; rfl
  | _ => cases h

theorem encode_of_row {i : Instr} {row : Row} (h : i.row = row) : encode i = row.bytes := h ▸ rfl

/-- Settles O55, by the kinds of row: a descriptor's opcode leads to its instruction, a missed byte has no entry in its
table. -/
theorem decodingAnEncodingGivesTheInstruction : Obligations.DecodingAnEncodingGivesTheInstruction := by
  intro i rest hwf
  rcases hrow : i.row with d | ⟨byte, _ | _⟩
  · calc decodeBytes (encode i ++ rest)
        = decodeBytes (d.opcode :: rest) := by rw [encode_of_row hrow]; rfl
      _ = .ok (rowOf d.opcode false, rest) := decodeBytes_unprefixed (opcode_ne_cbByte hrow) rest
      _ = .ok (i, rest) := by rw [rowOf_of_decode (decode_opcode hrow)]
  · obtain rfl : i = .decodeMiss byte := eq_missRow_of_row hrow
    obtain ⟨hnone, hne⟩ := (mem_missBytes_iff byte).1 (List.contains_iff_mem.1 hwf)
    calc decodeBytes (byte :: rest)
        = .ok (rowOf byte false, rest) := decodeBytes_unprefixed hne rest
      _ = .ok (.decodeMiss byte, rest) := by rw [rowOf_of_decode_none hnone]; rfl
  · obtain rfl : i = .prefixedDecodeMiss byte := eq_missRow_of_row hrow
    calc decodeBytes (Config.cbByte :: byte :: rest)
        = .ok (rowOf byte true, rest) := decodeBytes_prefixed byte rest
      _ = .ok (.prefixedDecodeMiss byte, rest) := by rw [rowOf_of_decode_none (decode_prefixed byte)]; rfl

/-- Settles O60, by evaluating the decoder at each word. -/
theorem writtenOutWordsDecode : Obligations.WrittenOutWordsDecode :=
  ⟨rfl, rfl, rfl, rfl, rfl, rfl, rfl, rfl, rfl, rfl, rfl, rfl, rfl, rfl, rfl, rfl, rfl⟩

/-! ### The pc advance of each format (R81) -/

/-- What is committed completes at the committed pc. -/
theorem commit_completes {s u : State} {nextPc : Word} (hfault : u.fault = s.fault) :
    ∃ t, commit u nextPc = .next t ∧ t.pc = nextPc ∧ t.fault = s.fault :=
  ⟨_, rfl, rfl, hfault⟩

section
variable {s : State} {test : Test}

theorem jump_not_taken (h : testHolds s.f test = false) : jump test s = commit s (s.pc + 3) := by
  simp [jump, h]

theorem call_not_taken (h : testHolds s.f test = false) : call test s = commit s (s.pc + 3) := by
  simp [call, h]

theorem ret_not_taken (h : testHolds s.f test = false) : ret test s = commit s (s.pc + 1) := by
  simp [ret, h]

end

/-- A descriptor with a pc advance that does not transfer control commits that advance, and raises nothing. -/
theorem execute_advances_pc {d : Descriptor} {n : Nat} {s : State} (hn : d.pcAdvance = some n)
    (hstay : transfersControl s d = false) :
    ∃ t, execute d s = .next t ∧ t.pc = s.pc + BitVec.ofNat 16 n ∧ t.fault = s.fault := by
  cases d with
  | nop | add => cases hn; exact commit_completes rfl
  | addHl => cases hn; exact commit_completes (writePair_fault _ _ _)
  | inc | dec => cases hn; exact commit_completes (writeReg_fault _ _ _)
  | incRr | decRr => cases hn; exact commit_completes (writeRr_fault _ _ _)
  | incMem | decMem => cases hn; exact commit_completes (memWrite_fault _ _ _)
  | ldByte target source => cases source <;> cases hn <;> exact commit_completes (writeTarget_fault _ _ _)
  | jp => cases hn; rw [execute, jump_not_taken hstay]; exact commit_completes rfl
  | call => cases hn; rw [execute, call_not_taken hstay]; exact commit_completes rfl
  | ret => cases hn; rw [execute, ret_not_taken hstay]; exact commit_completes rfl
  | push => cases hn; exact commit_completes (push16_fault _ _)
  | pop => cases hn; exact commit_completes (writePair_fault _ _ _)
  | ldWord | ldIndirectFromA | ldAFromIndirect | ldIndirectFromSp | rlca | rrca | rla | rra => cases hn

/-- The descriptors with no pc advance are the unimplemented ones. -/
theorem execute_of_pcAdvance_none {d : Descriptor} (h : d.pcAdvance = none) (s : State) :
    execute d s = unimplemented d s := by
  cases d with
  | ldWord | ldIndirectFromA | ldAFromIndirect | ldIndirectFromSp | rlca | rrca | rla | rra => rfl
  | ldByte _ source => cases source <;> cases h
  | _ => cases h

/-- Settles O45: an executed descriptor commits its advance, an unimplemented one raises before any commit. -/
theorem pcAdvancesByTheFormat : Obligations.PcAdvancesByTheFormat := by
  refine ⟨fun i d n s hrow hn hstay => ?_, fun i d s hrow hnone => ?_⟩
  · rw [exec_of_descriptor hrow]
    exact execute_advances_pc hn hstay
  · rw [exec_of_descriptor hrow, execute_of_pcAdvance_none hnone]
    exact ⟨_, rfl, rfl⟩

/-! ### The skip bytes (R84) -/

/-- The second state is the first but for the byte at `x`, which is `v`. -/
def DiffersOnlyAt (x : Word) (v : Byte) (t t' : State) : Prop :=
  { t' with mem := t.mem, vram := t.vram } = t ∧ ∀ a, memRead t' a = if a = x then v else memRead t a

/-- The first state with the memories of the second. -/
def withMemoriesOf (s u : State) : State := { s with mem := u.mem, vram := u.vram }

/-- A bus write changes the two memories only. -/
theorem memWrite_eq_withMemoriesOf (s : State) (x : Word) (v : Byte) :
    memWrite s x v = withMemoriesOf s (memWrite s x v) := by
  unfold memWrite
  split <;> rfl

/-- The register forms, which have one skip byte: ADD HL,rr, INC rr and DEC rr. -/
def HasOneSkipByte (d : Descriptor) : Prop :=
  (∃ rr, d = .addHl rr) ∨ (∃ rr, d = .incRr rr) ∨ (∃ rr, d = .decRr rr)

/-- The register forms compute from the registers alone, and store nothing. -/
theorem execute_withMemoriesOf {d : Descriptor} (hd : HasOneSkipByte d) (s u : State) :
    ∃ t, execute d s = .next t ∧ execute d (withMemoriesOf s u) = .next (withMemoriesOf t u) ∧
      ∀ a, memRead t a = memRead s a := by
  obtain ⟨rr, rfl⟩ | ⟨rr, rfl⟩ | ⟨rr, rfl⟩ := hd <;>
    cases rr <;> exact ⟨_, rfl, rfl, fun _ => rfl⟩

theorem execute_skipByte {d : Descriptor} (hd : HasOneSkipByte d) (s : State) (x : Word) (v : Byte) :
    ∃ t t', execute d s = .next t ∧ execute d (memWrite s x v) = .next t' ∧ DiffersOnlyAt x v t t' := by
  obtain ⟨t, ht, ht', hmem⟩ := execute_withMemoriesOf hd s (memWrite s x v)
  rw [← memWrite_eq_withMemoriesOf] at ht'
  refine ⟨t, _, ht, ht', rfl, fun a => ?_⟩
  rw [hmem, ← memRead_memWrite]
  exact memRead_congr rfl rfl a

/-- A byte written beforehand elsewhere stays the one difference after a store and a write of the flags and pc. -/
theorem differsOnlyAt_of_store {x y : Word} (h : y ≠ x) (s : State) (v n : Byte) (f : Flags) (nextPc : Word) :
    DiffersOnlyAt x v { memWrite s y n with f := f, pc := nextPc }
      { memWrite (memWrite s x v) y n with f := f, pc := nextPc } := by
  refine ⟨by simp, fun a => ?_⟩
  simp only [memRead_withFlagsPc, memRead_memWrite]
  by_cases hx : a = x
  · simp [hx, h.symm]
  · simp [hx]

/-- INC (HL) (R140). -/
theorem execute_incMem (s : State) :
    execute .incMem s = .next { memWrite s (readPair s .hl) (inc8 (memRead s (readPair s .hl))).1 with
      f := (inc8 (memRead s (readPair s .hl))).2
      pc := s.pc + 3 } := rfl

/-- DEC (HL) (R141). -/
theorem execute_decMem (s : State) :
    execute .decMem s = .next { memWrite s (readPair s .hl) (dec8 (memRead s (readPair s .hl)) s.f.c).1 with
      f := (dec8 (memRead s (readPair s .hl)) s.f.c).2
      pc := s.pc + 3 } := rfl

/-- INC (HL) and DEC (HL) store a byte and flags computed from the byte at HL, which a write elsewhere leaves. -/
theorem execute_memSkipByte {d : Descriptor} {s : State} {x : Word} (hd : d = .incMem ∨ d = .decMem)
    (h : readPair s .hl ≠ x) (v : Byte) :
    ∃ t t', execute d s = .next t ∧ execute d (memWrite s x v) = .next t' ∧ DiffersOnlyAt x v t t' := by
  have hhl : readPair (memWrite s x v) .hl = readPair s .hl := by simp [readPair]
  have hread : memRead (memWrite s x v) (readPair s .hl) = memRead s (readPair s .hl) := memRead_memWrite_of_ne h s v
  obtain rfl | rfl := hd
  · refine ⟨_, _, execute_incMem s, ?_, differsOnlyAt_of_store h s v _ _ _⟩
    rw [execute_incMem, hhl, hread, memWrite_pc]
  · refine ⟨_, _, execute_decMem s, ?_, differsOnlyAt_of_store h s v _ _ _⟩
    rw [execute_decMem, hhl, hread, memWrite_pc, memWrite_f]

/-- Settles O50: the register forms read no memory, and the memory forms read and store HL's byte alone. -/
theorem skipBytesAreNeverRead : Obligations.SkipBytesAreNeverRead := by
  intro i d k v s hrow hskip
  rw [exec_of_descriptor hrow, exec_of_descriptor hrow]
  obtain ⟨-, hd⟩ | ⟨-, hd, hhl⟩ := hskip
  · exact execute_skipByte hd s (s.pc + k) v
  · exact execute_memSkipByte hd hhl v

end Sys2Proof.Proofs
end

section
/-!
PROOFS. The step (40_engine.md): what each row's execution ends in, what is fetched, and the step case by case.
-/

namespace Sys2Proof.Proofs
open Sys2Proof.Machine Sys2Proof.Laws

/-! ### What an execution ends in (R119, R230, R231) -/

/-- R81 gives a pc advance to the executed descriptors and to no other. -/
theorem pcAdvance_eq_none_iff (d : Descriptor) : d.pcAdvance = none ↔ d.unimplemented = true := by
  cases d with
  | ldByte _ source => cases source <;> simp [Descriptor.pcAdvance, Descriptor.unimplemented]
  | _ => simp [Descriptor.pcAdvance, Descriptor.unimplemented]

theorem exists_pcAdvance {d : Descriptor} (h : d.unimplemented = false) : ∃ n, d.pcAdvance = some n := by
  rw [← Option.ne_none_iff_exists', ne_eq, pcAdvance_eq_none_iff, h]
  exact Bool.false_ne_true

theorem execute_of_unimplemented {d : Descriptor} (h : d.unimplemented = true) (s : State) :
    execute d s = .next { s with fault := some (.unimplementedInstruction d) } :=
  execute_of_pcAdvance_none ((pcAdvance_eq_none_iff d).2 h) s

/-- A descriptor that transfers control commits its target, and raises nothing. -/
theorem execute_transfer_completes {d : Descriptor} {s : State} (h : transfersControl s d = true) :
    ∃ t, execute d s = .next t ∧ t.fault = s.fault := by
  cases d with
  | jp => exact ⟨_, if_pos h, rfl⟩
  | call => exact ⟨_, if_pos h, push16_fault _ _⟩
  | ret => exact ⟨_, if_pos h, rfl⟩
  | _ => cases h

/-- An executed descriptor raises nothing, whether it commits its advance or its target. -/
theorem execute_of_implemented {d : Descriptor} (h : d.unimplemented = false) (s : State) :
    ∃ t, execute d s = .next t ∧ t.fault = s.fault := by
  cases htransfers : transfersControl s d with
  | true => exact execute_transfer_completes htransfers
  | false =>
    obtain ⟨n, hn⟩ := exists_pcAdvance h
    obtain ⟨t, ht, -, hfault⟩ := execute_advances_pc hn htransfers
    exact ⟨t, ht, hfault⟩

/-- Every instruction answers a next state: it raises nothing, or it records a condition and changes nothing else. -/
theorem exec_completes (i : Instr) (s : State) :
    ∃ t, exec i s = .next t ∧
      (t.fault = s.fault ∨
        (∃ byte prefixed, t = { s with fault := some (.unknownOpcode byte prefixed) }) ∨
        (∃ d, d.unimplemented = true ∧ t = { s with fault := some (.unimplementedInstruction d) })) := by
  cases hrow : i.row with
  | miss byte prefixed => exact ⟨_, exec_of_miss hrow s, .inr (.inl ⟨byte, prefixed, rfl⟩)⟩
  | descriptor d =>
    rw [exec_of_descriptor hrow]
    cases hunimplemented : d.unimplemented with
    | true => exact ⟨_, execute_of_unimplemented hunimplemented s, .inr (.inr ⟨d, hunimplemented, rfl⟩)⟩
    | false =>
      obtain ⟨t, ht, hfault⟩ := execute_of_implemented hunimplemented s
      exact ⟨t, ht, .inl hfault⟩

/-- Settles O34: a running step is the execution of the fetched row. -/
theorem runningStepEndsInOneOfThreeWays : Obligations.RunningStepEndsInOneOfThreeWays := by
  intro s hf hh
  rw [step_of_running hf hh, ← hf]
  exact exec_completes _ s

/-! ### The step by what is fetched (R113, R114, R118) -/

/-- After 0xCB the byte to decode is the next one (R113). -/
theorem fetch_of_cbByte {s : State} (h : memRead s s.pc = Config.cbByte) : fetch s = (memRead s (s.pc + 1), true) :=
  if_pos h

theorem exec_missRow (byte : Byte) (prefixed : Bool) (s : State) :
    exec (missRow byte prefixed) s = .next { s with fault := some (.unknownOpcode byte prefixed) } := by
  cases prefixed <;> rfl

section
variable {s : State} {byte : Byte} {prefixed : Bool}

theorem step_of_fetch (hf : s.fault = none) (hh : s.halted = false) (hfetch : fetch s = (byte, prefixed)) :
    step s = exec (rowOf byte prefixed) s := by
  rw [step_of_running hf hh, hfetch]

theorem step_of_decode {i : Instr} (hf : s.fault = none) (hh : s.halted = false) (hfetch : fetch s = (byte, prefixed))
    (hdecode : decode byte prefixed = some i) : step s = exec i s := by
  rw [step_of_fetch hf hh hfetch, rowOf_of_decode hdecode]

theorem step_of_decode_none (hf : s.fault = none) (hh : s.halted = false) (hfetch : fetch s = (byte, prefixed))
    (hdecode : decode byte prefixed = none) :
    step s = .next { s with fault := some (.unknownOpcode byte prefixed) } := by
  rw [step_of_fetch hf hh hfetch, rowOf_of_decode_none hdecode, exec_missRow]

end

/-- Settles O31: the pseudocode's pair is what `fetch` answers, and each case of the pseudocode is one lemma about the
step or about the fetched row's execution. -/
theorem stepFollowsThePseudocode : Obligations.StepFollowsThePseudocode := by
  intro s byte prefixed hpair
  have hfetch : fetch s = (byte, prefixed) := hpair.symm
  refine ⟨fun _ => step_of_fault, step_of_halted, fun hf hh => step_of_decode_none hf hh hfetch,
    fun i d hf hh hdecode hrow hunimplemented => ?_, fun i d hf hh hdecode hrow himplemented => ?_⟩
  · rw [step_of_decode hf hh hfetch hdecode, exec_of_descriptor hrow, execute_of_unimplemented hunimplemented]
  · obtain ⟨t, ht, hfault⟩ := execute_of_implemented himplemented s
    have hexec : exec i s = .next t := (exec_of_descriptor hrow s).trans ht
    exact ⟨t, hexec, (step_of_decode hf hh hfetch hdecode).trans hexec, hfault.trans hf⟩

/-- Settles O36: a listed byte is fetched as it stands and is missed; after 0xCB every byte is missed. -/
theorem unmappedByteRaisesUnknownOpcode : Obligations.UnmappedByteRaisesUnknownOpcode := by
  refine fun s hf hh => ⟨fun hmiss => ?_, fun hcb => ?_⟩
  · obtain ⟨hnone, hne⟩ := (mem_missBytes_iff _).1 hmiss
    exact step_of_decode_none hf hh (fetch_of_memRead_pc rfl hne) hnone
  · exact step_of_decode_none hf hh (fetch_of_cbByte hcb) (decode_prefixed _)

/-! ### Code in the window (R121) -/

/-- Settles O38: the bus reads a pc in the window from the device, and the byte is fetched as any other. -/
theorem codeExecutesFromTheWindow : Obligations.CodeExecutesFromTheWindow := by
  intro s byte hf hh hlow hhigh hbyte hne
  have hread : memRead s s.pc = byte :=
    (memRead_of_inWindow s ((inWindow_iff s.pc).2 ⟨hlow, hhigh⟩)).trans hbyte.symm
  have hfetch : fetch s = (byte, false) := fetch_of_memRead_pc hread hne
  exact ⟨hfetch, step_of_fetch hf hh hfetch⟩

/-! ### The instruction at pc (R113 to R115) -/

theorem instr_wf_of_row {i : Instr} {d : Descriptor} (h : i.row = .descriptor d) : i.wf = true := by
  cases i with
  | decodeMiss | prefixedDecodeMiss => cases h
  | _ => rfl

/-- A byte the decoder misses is a listed one, so its row is well formed. -/
theorem wf_rowOf_unprefixed {byte : Byte} (hne : byte ≠ Config.cbByte) : (rowOf byte false).wf = true := by
  cases hdecode : decode byte false with
  | some i =>
    obtain ⟨d, hrow, -⟩ := exists_descriptor_of_decode hdecode
    rw [rowOf_of_decode hdecode]
    exact instr_wf_of_row hrow
  | none =>
    rw [rowOf_of_decode_none hdecode]
    exact List.contains_iff_mem.2 ((mem_missBytes_iff byte).2 ⟨hdecode, hne⟩)

theorem wf_rowOf_prefixed (byte : Byte) : (rowOf byte true).wf = true := by
  rw [rowOf_of_decode_none (decode_prefixed byte)]
  rfl

/-- Settles O30, by the byte at pc: 0xCB leads both the decoder and the fetch to the next byte. -/
theorem stepRunsTheInstructionAtPc : Obligations.StepRunsTheInstructionAtPc := by
  intro i rest s hf hh hdecode
  by_cases hcb : memRead s s.pc = Config.cbByte
  · rw [hcb, decodeBytes_prefixed] at hdecode
    cases hdecode
    exact ⟨wf_rowOf_prefixed _, step_of_fetch hf hh (fetch_of_cbByte hcb)⟩
  · rw [decodeBytes_unprefixed hcb] at hdecode
    cases hdecode
    exact ⟨wf_rowOf_unprefixed hcb, step_of_fetch hf hh (fetch_of_memRead_pc rfl hcb)⟩

/-! ### HALTED (R112) -/

/-- A state that a step leaves as it is, every run leaves as it is. -/
theorem run_of_step_self {M : Host.Core} {s : M.State} (h : M.step s = .next s) (k : Nat) : M.run k s = .next s := by
  induction k with
  | zero => rfl
  | succ k ih => simp only [Host.Core.run, h, ih]

/-- Settles O32: a HALTED state is one that a step leaves as it is. -/
theorem haltedStepChangesNothing : Obligations.HaltedStepChangesNothing := fun _ hf hh =>
  have hstep := step_of_halted hf hh
  ⟨hstep, run_of_step_self (M := core) hstep⟩

end Sys2Proof.Proofs
end

section
/-!
PROOFS. Arithmetic (41_alu.md): the state after each addition, INC and DEC, and the exact sum behind a wrapped one.
-/

namespace Sys2Proof.Proofs
open Sys2Proof.Machine Sys2Proof.Laws

/-! ### The registers and pairs (R134 to R139) -/

/-- Settles O1: the row runs `addAccumulator`, which commits the sum and the flags of `add8`. -/
theorem addAccumulatorWritesSumAndFlags : Obligations.AddAccumulatorWritesSumAndFlags :=
  fun _ _ s hrow => exec_of_descriptor hrow s

/-- Settles O2: the row runs `addHl`, which commits the sum of `add16` in its two halves, and its flags. -/
theorem addHlWritesSumAndFlags : Obligations.AddHlWritesSumAndFlags :=
  fun _ _ s hrow => exec_of_descriptor hrow s

/-- Settles O3: the row runs `incReg`, which commits the value and all four flags of `inc8`. -/
theorem incRegisterWritesValueAndFlags : Obligations.IncRegisterWritesValueAndFlags :=
  fun _ _ s hrow => exec_of_descriptor hrow s

/-- Settles O4: the row runs `decReg`, which hands `dec8` the carry that stood before. -/
theorem decRegisterWritesValueAndKeepsCarry : Obligations.DecRegisterWritesValueAndKeepsCarry :=
  fun _ _ s hrow => exec_of_descriptor hrow s

/-- Settles O5: the row runs `incRr`, which commits the pair or `sp` alone. -/
theorem incPairWritesNoFlag : Obligations.IncPairWritesNoFlag :=
  fun _ _ s hrow => exec_of_descriptor hrow s

/-- Settles O6: the row runs `decRr`, which commits the pair or `sp` alone. -/
theorem decPairWritesNoFlag : Obligations.DecPairWritesNoFlag :=
  fun _ _ s hrow => exec_of_descriptor hrow s

/-! ### The byte at HL (R140, R141) -/

/-- Settles O7: `inc8` of the byte at HL is stored, and its four flags are kept. -/
theorem incMemoryWritesByteAndFlags : Obligations.IncMemoryWritesByteAndFlags := by
  intro s v hv
  rw [exec_of_descriptor rfl s, execute_incMem, hv]
  rfl

/-- Settles O8: `dec8` of the byte at HL is stored, with the carry that stood before. -/
theorem decMemoryWritesByteAndKeepsCarry : Obligations.DecMemoryWritesByteAndKeepsCarry := by
  intro s v hv
  rw [exec_of_descriptor rfl s, execute_decMem, hv]
  rfl

/-! ### The carry of an addition (R130, R131) -/

/-- A wrapped sum falls short of the exact one by the modulus when the exact sum reaches it, else by nothing. -/
theorem toNat_add_add_carry {w : Nat} (x y : BitVec w) :
    (x + y).toNat + (if 2 ^ w ≤ x.toNat + y.toNat then 2 ^ w else 0) = x.toNat + y.toNat := by
  rw [BitVec.toNat_add]
  split
  next hcarry =>
    have hsum : x.toNat + y.toNat < 2 ^ w + 2 ^ w := Nat.add_lt_add x.isLt y.isLt
    rw [Nat.mod_eq_sub_mod hcarry, Nat.mod_eq_of_lt (Nat.sub_lt_left_of_lt_add hcarry hsum),
      Nat.sub_add_cancel hcarry]
  next hfits => exact Nat.mod_eq_of_lt (Nat.lt_of_not_le hfits)

theorem add8_completes (x y : Byte) :
    (add8 x y).1.toNat + (if (add8 x y).2.c then 0x100 else 0) = x.toNat + y.toNat := by
  simp only [add8, decide_eq_true_eq]
  exact toNat_add_add_carry x y

theorem add16_completes (x y : Word) :
    (add16 x y).1.toNat + (if (add16 x y).2.c then 0x10000 else 0) = x.toNat + y.toNat := by
  simp only [add16, decide_eq_true_eq]
  exact toNat_add_add_carry x y

/-- Settles O9: the states of O1 and O2 hold the sum and the carry of `add8` and `add16`, H and L joined again. -/
theorem additionCarryCompletesTheSum : Obligations.AdditionCarryCompletesTheSum := by
  refine ⟨fun i r s t hrow hexec => ?_, fun i rr s t hrow hexec => ?_⟩
  · cases (addAccumulatorWritesSumAndFlags i r s hrow).symm.trans hexec
    exact add8_completes s.a (readReg s r)
  · cases (addHlWritesSumAndFlags i rr s hrow).symm.trans hexec
    rw [join_hi8_lo8]
    exact add16_completes (join s.h s.l) (readRr s rr)

end Sys2Proof.Proofs
end

section
/-!
PROOFS. Loads (42_load.md): the byte load said once for every target and source, and the loads that only raise.
-/

namespace Sys2Proof.Proofs
open Sys2Proof.Machine Sys2Proof.Laws

/-! ### The byte load (R170 to R176) -/

/-- The source is resolved in the state before the write, and so is the pc that is advanced (R170, R171). -/
theorem exec_ldByte {i : Instr} {target : Target} {source : Source}
    (hrow : i.row = .descriptor (.ldByte target source)) (s : State) :
    exec i s = .next { writeTarget s target (readSource s source) with pc := s.pc + ldAdvance source } :=
  exec_of_descriptor hrow s

/-- Settles O10: the byte load from register to register, whose advance is 1. -/
theorem loadRegisterFromRegister : Obligations.LoadRegisterFromRegister :=
  fun _ _ _ s hrow => exec_ldByte hrow s

/-- Settles O11: the byte load from HL, whose address is formed before the target is written. -/
theorem loadRegisterFromMemory : Obligations.LoadRegisterFromMemory :=
  fun _ _ s hrow => exec_ldByte hrow s

/-- Settles O12: the store of the byte load, with HL spelled as its two halves. -/
theorem storeRegisterToMemory : Obligations.StoreRegisterToMemory :=
  fun _ _ s hrow => exec_storeReg hrow s

/-- Settles O13: the byte load of the immediate at pc + 1, whose advance is 2. -/
theorem loadRegisterImmediate : Obligations.LoadRegisterImmediate :=
  fun _ _ s hrow => exec_ldByte hrow s

/-- Settles O14: the byte load of the immediate at pc + 1 into memory at HL. -/
theorem storeImmediateToMemory : Obligations.StoreImmediateToMemory :=
  fun s => exec_ldByte (i := .ldIndHlD8) rfl s

/-! ### The unimplemented loads (R177 to R180) -/

/-- A descriptor without behaviour is recorded in the fault component, and nothing else changes (R231). -/
theorem exec_of_unimplemented {i : Instr} {d : Descriptor} (hrow : i.row = .descriptor d)
    (hunimplemented : d.unimplemented = true) (s : State) :
    exec i s = .next { s with fault := some (.unimplementedInstruction d) } :=
  (exec_of_descriptor hrow s).trans (execute_of_unimplemented hunimplemented s)

/-- Settles O15: each of the four kinds of load is a descriptor without behaviour. -/
theorem unimplementedLoadsRaise : Obligations.UnimplementedLoadsRaise :=
  ⟨fun _ _ s hrow => exec_of_unimplemented hrow rfl s,
    fun _ _ s hrow => exec_of_unimplemented hrow rfl s,
    fun _ _ s hrow => exec_of_unimplemented hrow rfl s,
    fun s => exec_of_unimplemented (i := .ldIndA16Sp) rfl rfl s⟩

end Sys2Proof.Proofs
end

section
/-!
PROOFS. Control transfer (43_control.md): the tests, JP, CALL and RET taken and not taken, and a CALL undone by a RET.
-/

namespace Sys2Proof.Proofs
open Sys2Proof.Machine Sys2Proof.Laws

/-! ### The tests (R190) -/

/-- Settles O16: each test is one flag, its negation, or always true. -/
theorem testsReadZeroAndCarry : Obligations.TestsReadZeroAndCarry := by
  refine fun f => ⟨rfl, Iff.rfl, .of_eq (Bool.not_eq_true' f.z), Iff.rfl, .of_eq (Bool.not_eq_true' f.c),
    fun test n h => ?_⟩
  cases test with
  | always | zero | notZero | carry | notCarry => rfl

/-! ### JP, CALL and RET (R191 to R193) -/

/-- The little-endian word after the byte at `x` stands at `x + 1` and `x + 2`. -/
theorem read16_add_one (s : State) (x : Word) : read16 s (x + 1) = join (memRead s (x + 2)) (memRead s (x + 1)) := by
  have hnext : x + 1 + 1 = x + 2 := BitVec.add_assoc x 1 1
  rw [read16, hnext]

section
variable {s : State} {test : Test}

theorem jump_taken (h : testHolds s.f test = true) : jump test s = commit s (read16 s (s.pc + 1)) := if_pos h

/-- A taken RET goes to the word at `sp`, which it removes from the stack (R193, R211). -/
theorem ret_taken (h : testHolds s.f test = true) :
    ret test s = .next { s with sp := s.sp + 2, pc := read16 s s.sp } := by
  calc ret test s
      = commit (pop16 s).2 (pop16 s).1 := if_pos h
    _ = .next { s with sp := s.sp + 2, pc := read16 s s.sp } := by rw [pop16_state, pop16_value]; rfl

end

/-- Settles O17: JP commits the word at pc + 1 or the pc after its operand. -/
theorem jumpTakenAndNotTaken : Obligations.JumpTakenAndNotTaken := by
  intro i test s hrow
  rw [exec_of_descriptor hrow, ← read16_add_one]
  exact ⟨jump_taken, jump_not_taken⟩

/-- Settles O18: `p` is the state after the push, and the target is read from it. -/
theorem callTakenAndNotTaken : Obligations.CallTakenAndNotTaken := by
  intro i test s p hrow hp
  obtain rfl : p = push16 s (s.pc + 3) := hp.trans (push16_eq s (s.pc + 3)).symm
  rw [← read16_add_one]
  exact ⟨exec_call_taken hrow, fun h => (exec_of_descriptor hrow s).trans (call_not_taken h)⟩

/-- Settles O19: RET commits the popped word or the pc after itself. -/
theorem returnTakenAndNotTaken : Obligations.ReturnTakenAndNotTaken := by
  intro i test s hrow
  rw [exec_of_descriptor hrow]
  exact ⟨ret_taken, ret_not_taken⟩

/-! ### A taken CALL, then a taken RET (R194) -/

/-- Settles O21: the RET pops, from the `sp` that the CALL left, the word that the CALL pushed there. -/
theorem callThenReturnResumes : Obligations.CallThenReturnResumes := by
  intro i j ti tj s hcall hret htaken
  refine ⟨_, exec_call_taken hcall htaken, fun u hsp hlow hhigh hreturns => ?_⟩
  refine ⟨_, (exec_of_descriptor hret u).trans (ret_taken hreturns), ?_, ?_⟩
  · calc read16 u u.sp
        = read16 (push16 s (s.pc + 3)) (push16 s (s.pc + 3)).sp := by
          rw [hsp]; exact congrArg₂ join hhigh hlow
      _ = s.pc + 3 := read16_push16_sp s (s.pc + 3)
  · calc u.sp + 2
        = s.sp - 2 + 2 := by rw [hsp, push16_sp]
      _ = s.sp := BitVec.sub_add_cancel s.sp 2

end Sys2Proof.Proofs
end

section
/-!
PROOFS. Stack (44_stack.md): the state after PUSH and POP, and a PUSH undone by a POP of the same pair.
-/

namespace Sys2Proof.Proofs
open Sys2Proof.Machine Sys2Proof.Laws

/-! ### PUSH and POP (R210 to R213) -/

/-- PUSH qq (R212). -/
theorem exec_push {i : Instr} {qq : Pair} (hrow : i.row = .descriptor (.push qq)) (s : State) :
    exec i s = .next { push16 s (readPair s qq) with pc := s.pc + 1 } :=
  exec_of_descriptor hrow s

/-- POP qq takes the word at `sp` off the stack and writes it to the pair (R213). -/
theorem exec_pop {i : Instr} {qq : Pair} (hrow : i.row = .descriptor (.pop qq)) (s : State) :
    exec i s = .next { writePair { s with sp := s.sp + 2 } qq (read16 s s.sp) with pc := s.pc + 1 } := by
  calc exec i s
      = commit (writePair (pop16 s).2 qq (pop16 s).1) (s.pc + 1) := exec_of_descriptor hrow s
    _ = commit (writePair { s with sp := s.sp + 2 } qq (read16 s s.sp)) (s.pc + 1) := by
          rw [pop16_state, pop16_value, read16]

/-- Settles O22: PUSH commits a push of the pair, whose two stores stand in `push16_eq`. -/
theorem pushStoresPairBelowStackPointer : Obligations.PushStoresPairBelowStackPointer := by
  intro i qq s hrow
  rw [exec_push hrow, push16_eq]

/-- Settles O23: the word at `sp` is written half by half, AF's low half as the four flags. -/
theorem popLoadsPairFromStack : Obligations.PopLoadsPairFromStack := by
  rintro i qq s lo hi hrow rfl rfl
  rw [exec_pop hrow, read16]
  cases qq with
  | bc | de | hl => simp only [writePair, hi8_join, lo8_join]
  | af => simp only [writePair, hi8_join, lo8_join, Flags.fromByte]

/-! ### A PUSH, then a POP of the same pair (R214) -/

/-- The flags come back from their byte. -/
@[simp] theorem fromByte_toByte (f : Flags) : Flags.fromByte f.toByte = f := by
  obtain ⟨z, n, h, c⟩ := f
  revert z n h c
  decide

/-- A pair written with what it holds leaves the state as it was, AF and its flags included. -/
@[simp] theorem writePair_readPair (s : State) (p : Pair) : writePair s p (readPair s p) = s := by
  cases p with
  | bc | de | hl => simp only [writePair, readPair, hi8_join, lo8_join]
  | af => simp only [writePair, readPair, hi8_join, lo8_join, fromByte_toByte]

/-- The value popped after a push is the value pushed. -/
theorem pop16_push16_value (s : State) (v : Word) : (pop16 (push16 s v)).1 = v := read16_push16_sp s v

/-- A pop moves `sp` back to where it stood before a push. -/
theorem push16_sp_add_two (s : State) (v : Word) : (push16 s v).sp + 2 = s.sp := by
  rw [push16_sp]
  exact BitVec.sub_add_cancel s.sp 2

theorem pop16_push16_sp (s : State) (v : Word) : (pop16 (push16 s v)).2.sp = s.sp := by
  rw [pop16_state]
  exact push16_sp_add_two s v

/-- `u` with the pc and the two memories of `s`. -/
def withPcAndMemoriesOf (u s : State) : State := { u with pc := s.pc, mem := s.mem, vram := s.vram }

/-- A write of a pair touches neither pc nor memory. -/
theorem withPcAndMemoriesOf_writePair (u s : State) (p : Pair) (v : Word) :
    withPcAndMemoriesOf (writePair u p v) s = writePair (withPcAndMemoriesOf u s) p v := by
  cases p <;> rfl

/-- Once `sp` is moved back, a push has changed memory alone. -/
theorem withPcAndMemoriesOf_push16 (s : State) (v : Word) :
    withPcAndMemoriesOf { push16 s v with sp := (push16 s v).sp + 2 } s = s := by
  simp only [withPcAndMemoriesOf, push16_sp_add_two, push16_a, push16_b, push16_c, push16_d, push16_e, push16_h,
    push16_l, push16_f, push16_halted, push16_fault]

/-- Settles O24: the POP finds the pushed word at `sp`, and writes the pair with what it held before the PUSH. -/
theorem pushThenPopRestores : Obligations.PushThenPopRestores := by
  refine ⟨fun s v => ⟨pop16_push16_value s v, pop16_push16_sp s v⟩, fun i j qq s hpush hpop => ?_⟩
  refine ⟨_, _, exec_push hpush s, exec_pop hpop _, ?_⟩
  generalize hv : readPair s qq = v
  have hword : read16 { push16 s v with pc := s.pc + 1 } (push16 s v).sp = v := read16_push16_sp s v
  rw [hword]
  calc withPcAndMemoriesOf (writePair { push16 s v with sp := (push16 s v).sp + 2, pc := s.pc + 1 } qq v) s
      = writePair (withPcAndMemoriesOf { push16 s v with sp := (push16 s v).sp + 2 } s) qq v :=
          withPcAndMemoriesOf_writePair _ s qq v
    _ = writePair s qq v := by rw [withPcAndMemoriesOf_push16]
    _ = s := by rw [← hv, writePair_readPair]

end Sys2Proof.Proofs
end

section
/-!
PROOFS. Miscellaneous rows (45_misc.md): NOP and a memory that holds nothing else, the four rotates, and the two
decode-miss rows.
-/

namespace Sys2Proof.Proofs
open Sys2Proof.Machine Sys2Proof.Laws

/-! ### NOP (R220) -/

/-- Settles O26: the row runs `nop`, which commits the pc after its one byte. -/
theorem nopOnlyAdvancesPc : Obligations.NopOnlyAdvancesPc := fun s => exec_of_descriptor (d := .nop) rfl s

theorem decode_zero : decode 0 false = some .nop := by decide

/-- A running machine that reads 0x00 at pc executes NOP (R89). -/
theorem step_of_zero_at_pc {s : State} (hf : s.fault = none) (hh : s.halted = false) (hzero : memRead s s.pc = 0) :
    step s = .next { s with pc := s.pc + 1 } := by
  have hfetch : fetch s = (0, false) := fetch_of_memRead_pc hzero (by decide)
  rw [step_of_decode hf hh hfetch decode_zero, nopOnlyAdvancesPc]

/-! ### Any number of NOPs (R220) -/

/-- A run goes on from where its first step leads. -/
theorem run_succ_of_step_next {M : Host.Core} {s t : M.State} (h : M.step s = .next t) (k : Nat) :
    M.run (k + 1) s = M.run k t := by
  simp only [Host.Core.run, h]

/-- Settles O27, by induction on the steps from the first one: it moves pc alone, so the rest of the run again starts
in RUNNING from a memory that reads 0x00. -/
theorem zeroMemoryRunsAsNops : Obligations.ZeroMemoryRunsAsNops := by
  intro k
  induction k with
  | zero =>
    intro s _ _ _
    have hpc : s.pc + BitVec.ofNat 16 0 = s.pc := BitVec.add_zero s.pc
    calc core.run 0 s
        = .next s := rfl
      _ = .next { s with pc := s.pc + BitVec.ofNat 16 0 } := by rw [hpc]
  | succ k ih =>
    intro s hf hh hzero
    have hstep : core.step s = .next { s with pc := s.pc + 1 } := step_of_zero_at_pc hf hh (hzero s.pc)
    have hpc : s.pc + 1 + BitVec.ofNat 16 k = s.pc + BitVec.ofNat 16 (k + 1) := by
      rw [BitVec.add_assoc, BitVec.add_comm 1, BitVec.ofNat_add]
      rfl
    calc core.run (k + 1) s
        = core.run k { s with pc := s.pc + 1 } := run_succ_of_step_next hstep k
      _ = .next { s with pc := s.pc + 1 + BitVec.ofNat 16 k } := ih { s with pc := s.pc + 1 } hf hh hzero
      _ = .next { s with pc := s.pc + BitVec.ofNat 16 (k + 1) } := by rw [hpc]

/-! ### The rotates (R221 to R224) and the decode-miss rows (R225, R226) -/

/-- Settles O28: the four descriptors are among those the engine cannot execute. -/
theorem rotatesRaiseUnimplemented : Obligations.RotatesRaiseUnimplemented := fun s =>
  ⟨exec_of_unimplemented rfl rfl s, exec_of_unimplemented rfl rfl s, exec_of_unimplemented rfl rfl s,
    exec_of_unimplemented rfl rfl s⟩

/-- Settles O29: the rows are the miss rows of an unprefixed and of a prefixed byte. -/
theorem decodeMissRowsRaiseUnknownOpcode : Obligations.DecodeMissRowsRaiseUnknownOpcode := fun byte s =>
  ⟨exec_missRow byte false s, exec_missRow byte true s⟩

end Sys2Proof.Proofs
end

section
/-!
PROOFS. Exceptions (60_exceptions.md): what a step that raises a fatal condition leaves as it was, and what every run
keeps.
-/

namespace Sys2Proof.Proofs
open Sys2Proof.Machine Sys2Proof.Laws

/-! ### The raising step (R233) -/

section
variable {s t : State}

/-- An execution raises nothing, or the recorded condition is all it writes. -/
theorem exec_next_cases {i : Instr} (h : exec i s = .next t) :
    t.fault = s.fault ∨ ∃ condition, t = { s with fault := some condition } := by
  obtain ⟨u, hexec, hends⟩ := exec_completes i s
  cases hexec.symm.trans h
  obtain hfault | ⟨byte, prefixed, heq⟩ | ⟨d, -, heq⟩ := hends
  · exact .inl hfault
  · exact .inr ⟨_, heq⟩
  · exact .inr ⟨_, heq⟩

/-- A step begins with no condition recorded, so it ends with none or records one and writes nothing else. -/
theorem fault_eq_none_or_eq_of_step (h : step s = .next t) :
    t.fault = none ∨ ∃ condition, t = { s with fault := some condition } := by
  obtain ⟨hf, ⟨-, rfl⟩ | ⟨-, hexec⟩⟩ := step_next_cases h
  · exact .inl hf
  · exact hf ▸ exec_next_cases hexec

end

/-- Settles O35: the recorded condition is the one the step raised, and from then on it is the outcome. -/
theorem fatalStepWritesOnlyTheCondition : Obligations.FatalStepWritesOnlyTheCondition := by
  intro s t condition hstep hfault
  refine ⟨?_, step_of_fault hfault⟩
  obtain hnone | ⟨raised, rfl⟩ := fault_eq_none_or_eq_of_step hstep
  · cases hnone.symm.trans hfault
  · cases hfault
    rfl

/-! ### The memory invariant along a step (R51, R52, R56, R58) -/

section
variable {s t : State}

theorem wf_writeReg (h : s.wf = true) (r : Reg8) (v : Byte) : (writeReg s r v).wf = true :=
  wf_of_memories (writeReg_mem s r v).symm (writeReg_vram s r v).symm h

theorem wf_writePair (h : s.wf = true) (p : Pair) (v : Word) : (writePair s p v).wf = true :=
  wf_of_memories (writePair_mem s p v).symm (writePair_vram s p v).symm h

theorem wf_writeRr (h : s.wf = true) (rr : PairOrSp) (v : Word) : (writeRr s rr v).wf = true :=
  wf_of_memories (writeRr_mem s rr v).symm (writeRr_vram s rr v).symm h

theorem wf_writeTarget (h : s.wf = true) (target : Target) (v : Byte) : (writeTarget s target v).wf = true := by
  cases target with
  | reg r => exact wf_writeReg h r v
  | memHl => exact wf_memWrite h

theorem wf_withFlags (h : s.wf = true) (f : Flags) : { s with f := f }.wf = true := h

theorem wf_pop16 (h : s.wf = true) : (pop16 s).2.wf = true := h

/-- A commit keeps the memories of the state it commits. -/
theorem wf_of_commit {u : State} {nextPc : Word} (h : commit u nextPc = .next t) (hwf : u.wf = true) : t.wf = true := by
  cases h
  exact hwf

theorem wf_of_raiseFatal {condition : Fault} (h : raiseFatal s condition = .next t) (hwf : s.wf = true) :
    t.wf = true := by
  cases h
  exact hwf

theorem wf_of_jump {test : Test} (h : jump test s = .next t) (hwf : s.wf = true) : t.wf = true := by
  unfold jump at h
  split at h
  · exact wf_of_commit h hwf
  · exact wf_of_commit h hwf

theorem wf_of_call {test : Test} (h : call test s = .next t) (hwf : s.wf = true) : t.wf = true := by
  unfold call at h
  split at h
  · exact wf_of_commit h (wf_push16 hwf)
  · exact wf_of_commit h hwf

theorem wf_of_ret {test : Test} (h : ret test s = .next t) (hwf : s.wf = true) : t.wf = true := by
  unfold ret at h
  split at h
  · exact wf_of_commit h (wf_pop16 hwf)
  · exact wf_of_commit h hwf

/-- Every descriptor keeps the invariant: its operation commits a state that writes registers, or memory through the
bus alone, or raises. -/
theorem wf_of_execute {d : Descriptor} (h : execute d s = .next t) (hwf : s.wf = true) : t.wf = true := by
  cases d with
  | nop | add => exact wf_of_commit h hwf
  | addHl => exact wf_of_commit h (wf_writePair (wf_withFlags hwf _) _ _)
  | inc | dec => exact wf_of_commit h (wf_writeReg hwf _ _)
  | incRr | decRr => exact wf_of_commit h (wf_writeRr hwf _ _)
  | incMem | decMem => exact wf_of_commit h (wf_memWrite hwf)
  | ldByte => exact wf_of_commit h (wf_writeTarget hwf _ _)
  | jp => exact wf_of_jump h hwf
  | call => exact wf_of_call h hwf
  | ret => exact wf_of_ret h hwf
  | push => exact wf_of_commit h (wf_push16 hwf)
  | pop => exact wf_of_commit h (wf_writePair (wf_pop16 hwf) _ _)
  | ldWord | ldIndirectFromA | ldAFromIndirect | ldIndirectFromSp | rlca | rrca | rla | rra =>
    exact wf_of_raiseFatal h hwf

theorem wf_of_exec {i : Instr} (h : exec i s = .next t) (hwf : s.wf = true) : t.wf = true := by
  cases hrow : i.row with
  | descriptor d => exact wf_of_execute (exec_of_descriptor hrow s ▸ h) hwf
  | miss byte prefixed => exact wf_of_raiseFatal (exec_of_miss hrow s ▸ h) hwf

theorem wf_of_step (h : step s = .next t) (hwf : s.wf = true) : t.wf = true := by
  obtain ⟨-, ⟨-, rfl⟩ | ⟨-, hexec⟩⟩ := step_next_cases h
  · exact hwf
  · exact wf_of_exec hexec hwf

end

/-! ### Along every run (R245) -/

section
variable {M : Host.Core}

/-- A run that ends in a next state takes its first step to a next state and goes on from there. -/
theorem exists_step_of_run_succ {k : Nat} {s t : M.State} (h : M.run (k + 1) s = .next t) :
    ∃ u, M.step s = .next u ∧ M.run k u = .next t := by
  cases hstep : M.step s with
  | next u => exact ⟨u, rfl, (run_succ_of_step_next hstep k).symm.trans h⟩
  | fault r => cases (run_succ_of_step_fault hstep k).symm.trans h
  | refused r => simp [Host.Core.run, hstep] at h

/-- What every step keeps, every run keeps. -/
theorem run_keeps {P : M.State → Prop} (hkeeps : ∀ {u v}, M.step u = .next v → P u → P v) {k : Nat} {s t : M.State}
    (h : M.run k s = .next t) (hs : P s) : P t := by
  induction k generalizing s with
  | zero =>
    cases h
    exact hs
  | succ k ih =>
    obtain ⟨u, hstep, hrun⟩ := exists_step_of_run_succ h
    exact ih hrun (hkeeps hstep hs)

end

section
variable {k : Nat} {s t : State}

theorem wf_of_run (h : core.run k s = .next t) (hwf : s.wf = true) : t.wf = true :=
  run_keeps (M := core) (P := fun u : State => u.wf = true) wf_of_step h hwf

theorem halted_of_run (h : core.run k s = .next t) : t.halted = s.halted :=
  run_keeps (M := core) (P := fun u : State => u.halted = s.halted) (fun hstep => (halted_of_step hstep).trans) h rfl

/-- A safe run began with no condition recorded: the run of no step ends where it began, and any other takes a first
step. -/
theorem fault_of_safeRun (h : SafeRun k s t) : s.fault = none := by
  obtain ⟨hrun, hsafe⟩ := h
  cases k with
  | zero =>
    cases hrun
    exact Option.isNone_iff_eq_none.1 hsafe
  | succ k =>
    obtain ⟨u, hstep, -⟩ := exists_step_of_run_succ hrun
    exact (step_next_cases hstep).1

end

/-- Settles O52, by the two invariants of the run and by its first step. -/
theorem runsKeepTheInvariant : Obligations.RunsKeepTheInvariant := fun _ _ _ hwf hrun =>
  ⟨wf_of_run hrun hwf, halted_of_run hrun, fault_of_safeRun⟩

end Sys2Proof.Proofs
end

section
/-!
PROOFS. The invariant at reset and along a step (10_state.md section 7; 20_memory.md sections 1 and 2), and a byte
string against the encoding of what it decodes to (30_encoding.md section 3).
-/

namespace Sys2Proof.Proofs
open Sys2Proof.Machine Sys2Proof.Laws

/-! ### The memory invariant (R51, R52, R56, R58) -/

/-- Settles O51: a step stands still, or executes a row that writes memory through the bus alone. -/
theorem stepKeepsMemoriesCanonical : Obligations.StepKeepsMemoriesCanonical := fun _ _ hwf hstep =>
  wf_of_step hstep hwf

/-! ### Reset (R39) -/

theorem readReg_reset (r : Reg8) : readReg State.reset r = 0 := by
  cases r <;> rfl

/-- Nothing is listed after reset, on either side of the window. -/
theorem memRead_reset (a : Word) : memRead State.reset a = 0 := by
  unfold memRead
  split <;> rfl

/-- Settles O54: the scalar fields are the zero parameters, and both memories are the empty list. -/
theorem resetIsTheZeroConstruction : Obligations.ResetIsTheZeroConstruction :=
  ⟨rfl, rfl, rfl, rfl, readReg_reset, rfl, memRead_reset⟩

/-! ### Encoding a decoding (R80, R87, R94) -/

theorem row_missRow (byte : Byte) (prefixed : Bool) : (missRow byte prefixed).row = .miss byte prefixed := by
  cases prefixed <;> rfl

/-- The row of an unprefixed byte is spelled by that byte, whether the decoder maps it or misses it. -/
theorem encode_rowOf_unprefixed (byte : Byte) : encode (rowOf byte false) = [byte] := by
  cases hdecode : decode byte false with
  | some i =>
    obtain ⟨d, hrow, rfl⟩ := exists_descriptor_of_decode hdecode
    rw [rowOf_of_decode hdecode, encode_of_row hrow]
    rfl
  | none =>
    rw [rowOf_of_decode_none hdecode, encode_of_row (row_missRow byte false)]
    rfl

theorem encode_rowOf_prefixed (byte : Byte) : encode (rowOf byte true) = [Config.cbByte, byte] := by
  rw [rowOf_of_decode_none (decode_prefixed byte), encode_of_row (row_missRow byte true)]
  rfl

/-- Settles O56, by the first byte: 0xCB and the byte after it are the row of that byte, any other byte is its own. -/
theorem encodingADecodingGivesTheBytes : Obligations.EncodingADecodingGivesTheBytes := by
  intro bytes rest i hdecode
  rcases bytes with _ | ⟨b0, tail⟩
  · cases hdecode
  · by_cases hcb : b0 = Config.cbByte
    · subst hcb
      rcases tail with _ | ⟨b1, tail⟩
      · cases hdecode
      · rw [decodeBytes_prefixed] at hdecode
        cases hdecode
        rw [encode_rowOf_prefixed]
        exact ⟨wf_rowOf_prefixed b1, rfl⟩
    · rw [decodeBytes_unprefixed hcb] at hdecode
      cases hdecode
      rw [encode_rowOf_unprefixed]
      exact ⟨wf_rowOf_unprefixed hcb, rfl⟩

end Sys2Proof.Proofs
end

section
/-!
PROOFS. The frame of every instruction (10_state.md section 6, R36): the registers, the flags and `sp` that it leaves.
-/

namespace Sys2Proof.Proofs
open Sys2Proof.Machine Sys2Proof.Laws

/-! ### What JP, CALL and RET leave behind (R191 to R193) -/

section
variable {s t : State} {test : Test}

/-- JP writes pc alone. -/
theorem jump_next (h : jump test s = .next t) : ∃ nextPc, t = { s with pc := nextPc } := by
  unfold jump at h
  split at h
  · cases h
    exact ⟨_, rfl⟩
  · cases h
    exact ⟨_, rfl⟩

/-- CALL writes pc alone, or pushes first when its test holds. -/
theorem call_next (h : call test s = .next t) :
    (testHolds s.f test = true ∧ ∃ nextPc, t = { push16 s (s.pc + 3) with pc := nextPc }) ∨
      ∃ nextPc, t = { s with pc := nextPc } := by
  unfold call at h
  split at h
  next htaken =>
    cases h
    exact .inl ⟨htaken, _, rfl⟩
  next =>
    cases h
    exact .inr ⟨_, rfl⟩

/-- RET writes pc alone, and `sp` when its test holds. -/
theorem ret_next (h : ret test s = .next t) :
    (testHolds s.f test = true ∧ ∃ nextSp nextPc, t = { s with sp := nextSp, pc := nextPc }) ∨
      ∃ nextPc, t = { s with pc := nextPc } := by
  unfold ret at h
  split at h
  next htaken =>
    cases h
    exact .inl ⟨htaken, _, _, rfl⟩
  next =>
    cases h
    exact .inr ⟨_, rfl⟩

end

/-! ### The registers -/

section
variable {s t : State} {r : Reg8}

theorem readReg_writeReg_of_ne {q : Reg8} (h : r ≠ q) (s : State) (v : Byte) :
    readReg (writeReg s q v) r = readReg s r := by
  rw [readReg_writeReg, if_neg h]

theorem readReg_writePair_of_notMem {p : Pair} (h : r ∉ Pair.registers p) (s : State) (v : Word) :
    readReg (writePair s p v) r = readReg s r := by
  cases p with
  | bc | de | hl =>
    have hhigh := List.ne_of_not_mem_cons h
    have hlow := List.ne_of_not_mem_cons (List.not_mem_of_not_mem_cons h)
    exact (readReg_writeReg_of_ne hlow _ (lo8 v)).trans (readReg_writeReg_of_ne hhigh s (hi8 v))
  | af =>
    have hhigh : r ≠ .a := List.ne_of_not_mem_cons h
    exact (readReg_withFlagsPc (writeReg s .a (hi8 v)) _ s.pc r).trans (readReg_writeReg_of_ne hhigh s (hi8 v))

theorem readReg_withSpPc (s : State) (x y : Word) (r : Reg8) : readReg { s with sp := x, pc := y } r = readReg s r := by
  cases r <;> rfl

theorem readReg_writeRr_of_notMem {rr : PairOrSp} (h : r ∉ PairOrSp.registers rr) (s : State) (v : Word) :
    readReg (writeRr s rr v) r = readReg s r := by
  cases rr with
  | bc | de | hl => exact readReg_writePair_of_notMem h s v
  | sp => exact readReg_withSpPc s v s.pc r

theorem readReg_writeTarget_of_notMem {target : Target} {source : Source}
    (h : r ∉ writtenRegisters (.ldByte target source)) (v : Byte) :
    readReg (writeTarget s target v) r = readReg s r := by
  cases target with
  | reg q => exact readReg_writeReg_of_ne (List.ne_of_not_mem_cons h) s v
  | memHl => exact readReg_memWrite s (readPair s .hl) v r

theorem readReg_of_commit {u : State} {nextPc : Word} (h : commit u nextPc = .next t) (r : Reg8) :
    readReg t r = readReg u r := by
  cases h
  exact readReg_withPc u nextPc r

theorem readReg_of_commit_withFlags {u : State} {f : Flags} {nextPc : Word}
    (h : commit { u with f := f } nextPc = .next t) (r : Reg8) : readReg t r = readReg u r := by
  cases h
  exact readReg_withFlagsPc u f nextPc r

theorem readReg_of_raiseFatal {condition : Fault} (h : raiseFatal s condition = .next t) (r : Reg8) :
    readReg t r = readReg s r := by
  cases h
  cases r <;> rfl

/-- No descriptor writes a register outside its written registers: its operation commits a state that writes those,
`sp`, the flags or memory, or raises. -/
theorem readReg_of_execute {d : Descriptor} (h : execute d s = .next t) (hr : r ∉ writtenRegisters d) :
    readReg t r = readReg s r := by
  cases d with
  | nop => exact readReg_of_commit h r
  | add q =>
    have hne : r ≠ .a := List.ne_of_not_mem_cons hr
    exact (readReg_of_commit_withFlags (u := writeReg s .a (s.a + readReg s q)) h r).trans
      (readReg_writeReg_of_ne hne s _)
  | addHl rr =>
    exact (readReg_of_commit h r).trans
      ((readReg_writePair_of_notMem hr _ _).trans (readReg_withFlagsPc s _ s.pc r))
  | inc q | dec q =>
    exact (readReg_of_commit_withFlags h r).trans (readReg_writeReg_of_ne (List.ne_of_not_mem_cons hr) s _)
  | incRr rr | decRr rr => exact (readReg_of_commit h r).trans (readReg_writeRr_of_notMem hr s _)
  | incMem | decMem => exact (readReg_of_commit_withFlags h r).trans (readReg_memWrite s _ _ r)
  | ldByte target source => exact (readReg_of_commit h r).trans (readReg_writeTarget_of_notMem hr _)
  | jp test =>
    obtain ⟨nextPc, rfl⟩ := jump_next h
    exact readReg_withPc s nextPc r
  | call test =>
    obtain ⟨-, nextPc, rfl⟩ | ⟨nextPc, rfl⟩ := call_next h
    · exact (readReg_withPc _ nextPc r).trans (readReg_push16 s _ r)
    · exact readReg_withPc s nextPc r
  | ret test =>
    obtain ⟨-, nextSp, nextPc, rfl⟩ | ⟨nextPc, rfl⟩ := ret_next h
    · exact readReg_withSpPc s nextSp nextPc r
    · exact readReg_withPc s nextPc r
  | push qq => exact (readReg_of_commit h r).trans (readReg_push16 s _ r)
  | pop qq =>
    exact (readReg_of_commit h r).trans
      ((readReg_writePair_of_notMem hr _ _).trans (readReg_withSpPc s _ s.pc r))
  | ldWord | ldIndirectFromA | ldAFromIndirect | ldIndirectFromSp | rlca | rrca | rla | rra =>
    exact readReg_of_raiseFatal h r

end

/-- Settles O41, by the register frame of `execute` and of the miss row. -/
theorem onlyNamedRegistersAreWritten : Obligations.OnlyNamedRegistersAreWritten :=
  ⟨fun _ _ s _ hrow hexec _ hr => readReg_of_execute (exec_of_descriptor hrow s ▸ hexec) hr,
    fun _ _ _ s _ hrow hexec => readReg_of_raiseFatal (exec_of_miss hrow s ▸ hexec)⟩

/-! ### The flags -/

section
variable {s t : State}

theorem writePair_f_of_ne_af {p : Pair} (hp : p ≠ .af) (s : State) (v : Word) : (writePair s p v).f = s.f := by
  cases p with
  | af => exact absurd rfl hp
  | bc | de | hl => rfl

theorem f_of_commit {u : State} {nextPc : Word} (h : commit u nextPc = .next t) : t.f = u.f := by
  cases h
  rfl

theorem f_of_raiseFatal {condition : Fault} (h : raiseFatal s condition = .next t) : t.f = s.f := by
  cases h
  rfl

/-- The descriptors that leave Z, N and H leave C too. -/
theorem f_of_execute {d : Descriptor} (h : execute d s = .next t) (hznh : writesZnh d = false) : t.f = s.f := by
  cases d with
  | nop => exact f_of_commit h
  | add | addHl | inc | dec | incMem | decMem => cases hznh
  | incRr | decRr => exact (f_of_commit h).trans (writeRr_f _ _ _)
  | ldByte => exact (f_of_commit h).trans (writeTarget_f _ _ _)
  | jp =>
    obtain ⟨nextPc, rfl⟩ := jump_next h
    rfl
  | call =>
    obtain ⟨-, nextPc, rfl⟩ | ⟨nextPc, rfl⟩ := call_next h
    · exact push16_f _ _
    · rfl
  | ret =>
    obtain ⟨-, nextSp, nextPc, rfl⟩ | ⟨nextPc, rfl⟩ := ret_next h
    · rfl
    · rfl
  | push => exact (f_of_commit h).trans (push16_f _ _)
  | pop qq =>
    have hne : qq ≠ .af := by
      rintro rfl
      cases hznh
    exact (f_of_commit h).trans (writePair_f_of_ne_af hne _ _)
  | ldWord | ldIndirectFromA | ldAFromIndirect | ldIndirectFromSp | rlca | rrca | rla | rra => exact f_of_raiseFatal h

/-- DEC writes the other three flags and hands C on. -/
theorem carry_of_execute {d : Descriptor} (h : execute d s = .next t) (hcarry : writesCarry d = false) :
    t.f.c = s.f.c := by
  cases hznh : writesZnh d with
  | false => rw [f_of_execute h hznh]
  | true =>
    cases d with
    | dec | decMem =>
      cases h
      rfl
    | add | addHl | inc | incMem => cases hcarry
    | pop qq =>
      cases qq with
      | af => cases hcarry
      | bc | de | hl => cases hznh
    | _ => cases hznh

end

/-- Settles O42, by the frames of `execute` for the four flags and for C, and of the miss row. -/
theorem onlyNamedFlagsAreWritten : Obligations.OnlyNamedFlagsAreWritten := by
  refine ⟨fun i d s t hrow hexec => ?_, fun _ _ _ s _ hrow hexec => f_of_raiseFatal (exec_of_miss hrow s ▸ hexec)⟩
  rw [exec_of_descriptor hrow] at hexec
  refine ⟨fun hznh => ?_, carry_of_execute hexec⟩
  rw [f_of_execute hexec hznh]
  exact ⟨rfl, rfl, rfl⟩

/-! ### `sp` (R30, R36) -/

section
variable {s t : State}

theorem writeRr_sp_of_ne {rr : PairOrSp} (hrr : rr ≠ .sp) (s : State) (v : Word) : (writeRr s rr v).sp = s.sp := by
  cases rr with
  | sp => exact absurd rfl hrr
  | bc | de | hl => rfl

theorem sp_of_commit {u : State} {nextPc : Word} (h : commit u nextPc = .next t) : t.sp = u.sp := by
  cases h
  rfl

theorem sp_of_raiseFatal {condition : Fault} (h : raiseFatal s condition = .next t) : t.sp = s.sp := by
  cases h
  rfl

/-- Only the listed descriptors write `sp`: any other commits a state with the same `sp`, or raises. -/
theorem sp_of_execute {d : Descriptor} (h : execute d s = .next t) (hsp : writesSp s d = false) : t.sp = s.sp := by
  cases d with
  | nop | add => exact (sp_of_commit h).trans rfl
  | addHl => exact (sp_of_commit h).trans (writePair_sp _ _ _)
  | inc | dec => exact (sp_of_commit h).trans (writeReg_sp _ _ _)
  | incRr rr | decRr rr =>
    have hne : rr ≠ .sp := by
      rintro rfl
      cases hsp
    exact (sp_of_commit h).trans (writeRr_sp_of_ne hne _ _)
  | incMem | decMem => exact (sp_of_commit h).trans (memWrite_sp _ _ _)
  | ldByte => exact (sp_of_commit h).trans (writeTarget_sp _ _ _)
  | jp =>
    obtain ⟨nextPc, rfl⟩ := jump_next h
    rfl
  | call =>
    obtain ⟨htaken, -⟩ | ⟨nextPc, rfl⟩ := call_next h
    · cases htaken.symm.trans hsp
    · rfl
  | ret =>
    obtain ⟨htaken, -⟩ | ⟨nextPc, rfl⟩ := ret_next h
    · cases htaken.symm.trans hsp
    · rfl
  | push | pop => cases hsp
  | ldWord | ldIndirectFromA | ldAFromIndirect | ldIndirectFromSp | rlca | rrca | rla | rra => exact sp_of_raiseFatal h

end

/-- Settles O43, by the `sp` frame of `execute` and of the miss row. -/
theorem onlyStackInstructionsWriteSp : Obligations.OnlyStackInstructionsWriteSp :=
  ⟨fun _ _ s _ hrow hexec => sp_of_execute (exec_of_descriptor hrow s ▸ hexec),
    fun _ _ _ s _ hrow hexec => sp_of_raiseFatal (exec_of_miss hrow s ▸ hexec)⟩

end Sys2Proof.Proofs
end

section
/-!
PROOFS. Noninterference of N and H (10_state.md section 6, R37): an instruction that writes them overwrites them
without reading them, and every other one but PUSH AF hands them on.
-/

namespace Sys2Proof.Proofs
open Sys2Proof.Machine Sys2Proof.Laws

/-- `s` with N and H replaced. -/
def withNH (s : State) (n h : Bool) : State := { s with f := { s.f with n := n, h := h } }

section
variable {t : State} (s : State) (n h : Bool)

/-! ### The operations commute with a change of N and H -/

theorem readReg_withNH (r : Reg8) : readReg (withNH s n h) r = readReg s r := by
  cases r <;> rfl

theorem readPair_withNH {p : Pair} (hp : p ≠ .af) : readPair (withNH s n h) p = readPair s p := by
  cases p with
  | af => exact absurd rfl hp
  | bc | de | hl => rfl

theorem readRr_withNH (rr : PairOrSp) : readRr (withNH s n h) rr = readRr s rr := by
  cases rr <;> rfl

theorem readSource_withNH (source : Source) : readSource (withNH s n h) source = readSource s source := by
  cases source with
  | reg r => exact readReg_withNH s n h r
  | memHl | imm => rfl

theorem testHolds_withNH (test : Test) : testHolds (withNH s n h).f test = testHolds s.f test := by
  cases test <;> rfl

theorem writeReg_withNH (r : Reg8) (v : Byte) : writeReg (withNH s n h) r v = withNH (writeReg s r v) n h := by
  cases r <;> rfl

theorem writePair_withNH {p : Pair} (hp : p ≠ .af) (v : Word) :
    writePair (withNH s n h) p v = withNH (writePair s p v) n h := by
  cases p with
  | af => exact absurd rfl hp
  | bc | de | hl => rfl

theorem writeRr_withNH (rr : PairOrSp) (v : Word) : writeRr (withNH s n h) rr v = withNH (writeRr s rr v) n h := by
  cases rr <;> rfl

theorem memWrite_withNH (a : Word) (v : Byte) : memWrite (withNH s n h) a v = withNH (memWrite s a v) n h := by
  unfold memWrite
  split <;> rfl

theorem writeTarget_withNH (target : Target) (v : Byte) :
    writeTarget (withNH s n h) target v = withNH (writeTarget s target v) n h := by
  cases target with
  | reg r => exact writeReg_withNH s n h r v
  | memHl => exact memWrite_withNH s n h (readPair s .hl) v

theorem push16_withNH (v : Word) : push16 (withNH s n h) v = withNH (push16 s v) n h := by
  rw [push16_eq, push16_eq, memWrite_withNH, memWrite_withNH]
  rfl

/-! ### JP, CALL and RET read Z and C alone (R190 to R193) -/

theorem jump_withNH {test : Test} (hexec : jump test s = .next t) :
    jump test (withNH s n h) = .next (withNH t n h) := by
  unfold jump at hexec ⊢
  rw [testHolds_withNH]
  split at hexec
  next htaken =>
    cases hexec
    exact if_pos htaken
  next hnot =>
    cases hexec
    exact if_neg hnot

theorem call_withNH {test : Test} (hexec : call test s = .next t) :
    call test (withNH s n h) = .next (withNH t n h) := by
  unfold call at hexec ⊢
  rw [testHolds_withNH]
  split at hexec
  next htaken =>
    cases hexec
    simp only [if_pos htaken, push16_withNH]
    rfl
  next hnot =>
    cases hexec
    exact if_neg hnot

theorem ret_withNH {test : Test} (hexec : ret test s = .next t) :
    ret test (withNH s n h) = .next (withNH t n h) := by
  unfold ret at hexec ⊢
  rw [testHolds_withNH]
  split at hexec
  next htaken =>
    cases hexec
    exact if_pos htaken
  next hnot =>
    cases hexec
    exact if_neg hnot

end

/-! ### An instruction overwrites N and H or hands them on -/

/-- What writes N and H does not read them: it answers one state for all their values. -/
theorem execute_withNH_of_writes {d : Descriptor} (hd : writesZnh d = true) (s : State) (n h : Bool) :
    execute d (withNH s n h) = execute d s := by
  cases d with
  | add r =>
    simp only [execute, addAccumulator, readReg_withNH]
    rfl
  | addHl rr =>
    simp only [execute, addHl, readRr_withNH]
    rfl
  | inc r | dec r =>
    simp only [execute, incReg, decReg, readReg_withNH, writeReg_withNH]
    rfl
  | incMem | decMem =>
    simp only [execute_incMem, execute_decMem, memWrite_withNH]
    rfl
  | pop qq =>
    cases qq with
    | af => rfl
    | bc | de | hl => cases hd
  | _ => cases hd

/-- What leaves N and H does not read them, PUSH AF apart: it answers the same state but for their values. -/
theorem execute_withNH_of_keeps {d : Descriptor} {s t : State} (hd : writesZnh d = false) (hpush : d ≠ .push .af)
    (hexec : execute d s = .next t) (n h : Bool) : execute d (withNH s n h) = .next (withNH t n h) := by
  cases d with
  | nop =>
    cases hexec
    rfl
  | add | addHl | inc | dec | incMem | decMem => cases hd
  | incRr rr | decRr rr =>
    cases hexec
    simp only [execute, incRr, decRr, readRr_withNH, writeRr_withNH]
    rfl
  | ldByte target source =>
    cases hexec
    simp only [execute, ldByte, readSource_withNH, writeTarget_withNH]
    rfl
  | jp test => exact jump_withNH s n h hexec
  | call test => exact call_withNH s n h hexec
  | ret test => exact ret_withNH s n h hexec
  | push qq =>
    have hqq : qq ≠ .af := fun heq => hpush (congrArg _ heq)
    cases hexec
    simp only [execute, push, readPair_withNH s n h hqq, push16_withNH]
    rfl
  | pop qq =>
    cases qq with
    | af => cases hd
    | bc | de | hl =>
      cases hexec
      rfl
  | ldWord | ldIndirectFromA | ldAFromIndirect | ldIndirectFromSp | rlca | rrca | rla | rra =>
    cases hexec
    rfl

/-- N and H apart, what an instruction other than PUSH AF leaves is one state for all values of N and H. -/
theorem exec_withNH {i : Instr} {s t : State} (hpush : i.row ≠ .descriptor (.push .af)) (hexec : exec i s = .next t)
    (n h : Bool) : exec i (withNH s n h) = .next t ∨ exec i (withNH s n h) = .next (withNH t n h) := by
  cases hrow : i.row with
  | miss byte prefixed =>
    rw [exec_of_miss hrow] at hexec ⊢
    cases hexec
    exact .inr rfl
  | descriptor d =>
    rw [exec_of_descriptor hrow] at hexec ⊢
    cases hd : writesZnh d with
    | true => exact .inl ((execute_withNH_of_writes hd s n h).trans hexec)
    | false =>
      have hne : d ≠ .push .af := fun heq => hpush (heq ▸ hrow)
      exact .inr (execute_withNH_of_keeps hd hne hexec n h)

/-- Settles O44: the instruction leaves `t` itself, or `t` with the changed N and H. -/
theorem onlyPushAfReadsSubtractAndHalfCarry : Obligations.OnlyPushAfReadsSubtractAndHalfCarry := by
  intro i s t n h hpush hexec
  obtain heq | heq := exec_withNH hpush hexec n h
  · exact ⟨t, heq, rfl⟩
  · exact ⟨withNH t n h, heq, rfl⟩

end Sys2Proof.Proofs
end
